-- ==== Sys2Proof/Word.lean ====
section
/-! DEFINITION. The data the block moves: bytes, 16-bit words, two-byte words, and one value per SPI channel. -/

namespace Sys2Proof

/-- One byte of a transfer (00_scope.md R9). -/
abbrev Byte := BitVec 8

/-- A 16-bit word: a wValue or wIndex field, or one SPI word (30_encoding.md R76, R83). -/
abbrev Half := BitVec 16

/-- A two-byte word that the block never reads as a number: the GPIO status word, the GPIO data or
mask pair, the OTP lock bytes (20_memory.md R59, R60). `b0` is byte 0. -/
structure Bytes2 where
  b0 : Byte
  b1 : Byte
  deriving DecidableEq, Repr, Inhabited

/-- The two bytes in transmission order. -/
def Bytes2.toList (w : Bytes2) : List Byte := [w.b0, w.b1]

/-- The SPI channels of CHANNEL_DOMAIN (00_scope.md R6). -/
inductive Channel where
  | ch0
  | ch1
  deriving DecidableEq, Repr, Inhabited

/-- One value for each channel of CHANNEL_DOMAIN (10_state.md R33, R34). -/
structure PerChannel (α : Type) where
  ch0 : α
  ch1 : α
  deriving DecidableEq, Repr, Inhabited

end Sys2Proof
end

