-- ==== Sys2Proof/Syntax.lean ====
section
/-! DEFINITION. The instructions: one constructor of `Instr` for each row of opcode_table.json, and
the typed record `Command` that a caller presents at the command port (30_encoding.md R84, R86). -/

namespace Sys2Proof

/-- The five pins of GPIO_MAP, named by (byte, bit) of the status word (42_gpio.md R115). -/
inductive Pin where
  | b0_0
  | b0_2
  | b1_5
  | b1_6
  | b1_7
  deriving DecidableEq, Repr, Inhabited

/-- A Morse symbol (00_scope.md R13). -/
inductive Symbol where
  | dot
  | dash
  deriving DecidableEq, Repr, Inhabited

/-- The frequency registers (10_state.md R36). -/
inductive FreqReg where
  | freq0
  | freq1
  deriving DecidableEq, Repr, Inhabited

/-- The phase registers (10_state.md R36). -/
inductive PhaseReg where
  | phase0
  | phase1
  deriving DecidableEq, Repr, Inhabited

/-- The register tags (00_scope.md R13). -/
inductive RegTag where
  | freq0
  | freq1
  | phase0
  | phase1
  deriving DecidableEq, Repr, Inhabited

/-- The waveform shapes (30_encoding.md R92). -/
inductive Shape where
  | sine
  | triangle
  deriving DecidableEq, Repr, Inhabited

/-- The mnemonics of 30_encoding.md R84: the operation tag of an accumulator entry (10_state.md R22). -/
inductive Op where
  | spiMode
  | csSelect
  | csDisable
  | delayDisable
  | gpioGet
  | gpioSet
  | otpQuery
  | otpLock
  | reset
  | ddsFreq
  | ddsPhase
  | ddsAmp
  | ddsShape
  | morse
  deriving DecidableEq, Repr, Inhabited

/-- One constructor for each row of opcode_table.json. GPIO_SET has a row for each pin, DDS_FREQ and
DDS_PHASE a row for each register. Numeric operands are naturals, so that an operand which does not
fit its width (00_scope.md R7) can be written and is refused (30_encoding.md R88). -/
inductive Instr where
  | spiMode (ch cpol cpha : Nat)
  | csSelect (ch : Nat)
  | csDisable (ch : Nat)
  | delayDisable (ch : Nat)
  | gpioGet
  | gpioSetB0b0 (level : Nat)
  | gpioSetB0b2 (level : Nat)
  | gpioSetB1b5 (level : Nat)
  | gpioSetB1b6 (level : Nat)
  | gpioSetB1b7 (level : Nat)
  | otpQuery
  | otpLock
  | reset
  | ddsFreq0 (value : Nat)
  | ddsFreq1 (value : Nat)
  | ddsPhase0 (value : Nat)
  | ddsPhase1 (value : Nat)
  | ddsAmp (value : Nat)
  | ddsShape (shape : Shape)
  | morse (text : List Byte)
  | seqPrecheck
  | seqEnd
  | seqSkipWs
  | seqSkipUnmapped
  | seqCharGap
  | seqWordGap
  | seqCharStart
  | seqDot
  | seqDash
  deriving DecidableEq, Repr, Inhabited

/-- The typed record at the command port (30_encoding.md R84), before the port has checked that it
fits: a pin is any (byte, bit) position, a tag is any register tag, numbers are unbounded. The last
three are the pseudo-commands of R86. -/
inductive Command where
  | spiMode (ch cpol cpha : Nat)
  | csSelect (ch : Nat)
  | csDisable (ch : Nat)
  | delayDisable (ch : Nat)
  | gpioGet
  | gpioSet (byte bit level : Nat)
  | otpQuery
  | otpLock
  | reset
  | ddsFreq (reg : RegTag) (value : Nat)
  | ddsPhase (reg : RegTag) (value : Nat)
  | ddsAmp (value : Nat)
  | ddsShape (shape : Shape)
  | morse (text : List Byte)
  | dacOn
  | dacOff
  | setFrequency (value : Nat) (tag : RegTag)
  deriving DecidableEq, Repr, Inhabited

end Sys2Proof
end

