-- ==== Sys2Proof/Config.lean ====
section
/-! DEFINITION. The configuration: the OPEN parameters of 00_scope.md R6, the shape of the device-side
state and of the device's answers, and the free values, each an opaque constant that nothing in Lean
can evaluate. -/

namespace Sys2Proof

/-- AMP_SHIFT, 0 or 2 (92_eei_decisions.md D14). -/
inductive AmpShift where
  | zero
  | two
  deriving DecidableEq, Repr, Inhabited

/-- The OPEN parameters of 00_scope.md R6, arguments of the model. A level is a `Bool`, true for 1.
Every value of this type is an admissible choice: GEN_STATUS_PIN is given as its place among the
four pins other than DAC_EN_PIN, so the two are distinct (log 13), and the entries of `punct` that
45_morse.md R162 does not admit are ignored by the one function that reads the table (log 12). -/
structure Params where
  dacEnPin : Pin
  genStatusSlot : Fin 4
  dacEnActive : Bool
  genRunning : Bool
  otpLockWValue : Half
  ampShift : AmpShift
  ddsChannel : Channel
  ampChannel : Channel
  ddsSpiCpol : Bool
  ddsSpiCpha : Bool
  punct : List (Byte × List Symbol)
  deriving DecidableEq, Repr, Inhabited

/-- `E.delays[ch]`: ZERO, or unspecified (10_state.md R34). -/
inductive DelayState where
  | zero
  | unspecified
  deriving DecidableEq, Repr, Inhabited

/-- The DDS register file (10_state.md R36). `lsw` is the hidden latch of the first frequency word. -/
structure Dds where
  freq0 : BitVec 28
  freq1 : BitVec 28
  phase0 : BitVec 12
  phase1 : BitVec 12
  ctrl : BitVec 14
  lsw : Option (FreqReg × BitVec 14)
  deriving DecidableEq, Repr, Inhabited

/-- The device-side state E (10_state.md R32 to R37). `cs` holds, for each channel, whether it is a
member of the set `E.cs`. -/
structure Device where
  gpio : Bytes2
  cs : PerChannel Bool
  spiword : PerChannel Byte
  delays : PerChannel DelayState
  otp : Bytes2
  dds : Dds
  amp : BitVec 10
  deriving DecidableEq, Repr, Inhabited

/-- What the device does with one call (20_memory.md R50, R51): its underlying I/O fails, or it
answers after `ms` milliseconds that `k` bytes were transferred. `draw` is what it would return on a
read, where the reference model does not fix it (R69). -/
inductive Answer where
  | iofail
  | ok (ms k : Nat) (draw : Bytes2)
  deriving DecidableEq, Repr, Inhabited

/-- The opaque message value of an accumulator entry (10_state.md R22). -/
abbrev Msg := List Byte

/-- The value the OPEN parameters have in `State.reset` (log 1). Nothing is known of it. -/
opaque Config.params : Params

/-- Device-side state at block reset, a free draw (70_reset_and_hazards.md R228; log 2). -/
opaque Config.deviceAtReset : Device

/-- `S.rdata` at block reset, unspecified (70_reset_and_hazards.md R225; log 3). -/
opaque Config.rdataAtReset : Bytes2

/-- Whether the device handle exists at block reset: it is made outside the block
(70_reset_and_hazards.md R229; log 5). -/
opaque Config.handleAtReset : Bool

/-- The device's answer to call number `n`, where `State.answers` gives none (93 U1; log 4). -/
opaque Config.freeAnswer (n : Nat) : Answer

/-- The message of a fault recorded at call number `n` (93 U5; log 16). -/
opaque Config.freeMsg (n : Nat) : Msg

/-- A free draw of every device-side field, for call number `n` and, within its payload, word number
`k` (93 U2, U7, U8 to U13; log 7). -/
opaque Config.freeDevice (n k : Nat) : Device

end Sys2Proof
end

