-- ==== Sys2Proof/WellFormed.lean ====
section
/-! DEFINITION. Well-formed instructions: every operand fits its width (00_scope.md R7,
30_encoding.md R84 and R88). -/

namespace Sys2Proof

/-- The operand widths of 30_encoding.md R84. The channel is a byte, not range-checked beyond that. -/
def Instr.wf : Instr → Bool
  | .spiMode ch cpol cpha => decide (ch < 256) && decide (cpol < 2) && decide (cpha < 2)
  | .csSelect ch => decide (ch < 256)
  | .csDisable ch => decide (ch < 256)
  | .delayDisable ch => decide (ch < 256)
  | .gpioGet => true
  | .gpioSetB0b0 level => decide (level < 2)
  | .gpioSetB0b2 level => decide (level < 2)
  | .gpioSetB1b5 level => decide (level < 2)
  | .gpioSetB1b6 level => decide (level < 2)
  | .gpioSetB1b7 level => decide (level < 2)
  | .otpQuery => true
  | .otpLock => true
  | .reset => true
  | .ddsFreq0 value => decide (value < 2 ^ 28)
  | .ddsFreq1 value => decide (value < 2 ^ 28)
  | .ddsPhase0 value => decide (value < 2 ^ 12)
  | .ddsPhase1 value => decide (value < 2 ^ 12)
  | .ddsAmp value => decide (value < 2 ^ 10)
  | .ddsShape _ => true
  | .morse _ => true
  | .seqPrecheck => true
  | .seqEnd => true
  | .seqSkipWs => true
  | .seqSkipUnmapped => true
  | .seqCharGap => true
  | .seqWordGap => true
  | .seqCharStart => true
  | .seqDot => true
  | .seqDash => true

end Sys2Proof
end

