-- ==== Sys2Proof/Decode.lean ====
section
/-! DEFINITION. Requests, their images, the payload builders (30_encoding.md R75 to R92), the decoder
from an image to an instruction (R93, R94, R96), and after it the encoder. -/

namespace Sys2Proof

/-! ## Byte order (00_scope.md R8, R9; 20_memory.md R59) -/

/-- `w[15:8]` of 00_scope.md R8. -/
def hi8 (w : Half) : Byte := w.extractLsb' 8 8

/-- `w[7:0]` of 00_scope.md R8. -/
def lo8 (w : Half) : Byte := w.extractLsb' 0 8

/-- `be16` of 00_scope.md R9: an SPI word in transmission order. -/
def be16 (w : Half) : List Byte := [hi8 w, lo8 w]

/-- `le16` of 00_scope.md R9: a field of a control request. -/
def le16 (w : Half) : List Byte := [lo8 w, hi8 w]

/-- `le32` of 00_scope.md R9: the payload length of the bulk envelope. -/
def le32 (n : BitVec 32) : List Byte :=
  [n.extractLsb' 0 8, n.extractLsb' 8 8, n.extractLsb' 16 8, n.extractLsb' 24 8]

/-- Byte `n` of an image, 0 past its end. -/
def byteAt (bs : List Byte) (n : Nat) : Byte := bs.getD n 0#8

/-- The big-endian word at offset `n` of an image. -/
def be16At (bs : List Byte) (n : Nat) : Half := byteAt bs n ++ byteAt bs (n + 1)

/-! ## Requests (30_encoding.md R75, 00_scope.md R11) -/

/-- One transfer: the three formats of 30_encoding.md R75. -/
inductive Request where
  | ctrlOut (bRequest : Byte) (wValue wIndex : Half) (payload : List Byte)
  | ctrlIn (bRequest : Byte) (wValue wIndex : Half) (n : Nat)
  | bulkOut (endpoint : Byte) (bytes : List Byte)
  deriving DecidableEq, Repr, Inhabited

/-- The originating request identifier of an accumulator entry (10_state.md R22). -/
inductive ReqId where
  | ctrlOut (bRequest : Byte)
  | ctrlIn (bRequest : Byte)
  | bulkOut (endpoint : Byte)
  deriving DecidableEq, Repr, Inhabited

/-- The identifier a TransferError of this request records (60_exceptions.md R201). -/
def Request.ident : Request → ReqId
  | .ctrlOut b _ _ _ => .ctrlOut b
  | .ctrlIn b _ _ _ => .ctrlIn b
  | .bulkOut e _ => .bulkOut e

/-- The number of bytes a successful call transfers (20_memory.md R50). -/
def Request.expectedLen : Request → Nat
  | .ctrlOut _ _ _ payload => payload.length
  | .ctrlIn _ _ _ n => n
  | .bulkOut _ bytes => bytes.length

/-- The canonical request image (30_encoding.md R75). -/
def Request.image : Request → List Byte
  | .ctrlOut b v i payload =>
    [0x40#8, b] ++ le16 v ++ le16 i ++ le16 (BitVec.ofNat 16 payload.length) ++ payload
  | .ctrlIn b v i n => [0xC0#8, b] ++ le16 v ++ le16 i ++ le16 (BitVec.ofNat 16 n)
  | .bulkOut _ bytes => bytes

/-- The bulk "write command" envelope of a payload (30_encoding.md R77). -/
def envelope (payload : List Byte) : List Byte :=
  [0x00#8, 0x00#8, 0x01#8, 0x00#8] ++ le32 (BitVec.ofNat 32 payload.length) ++ payload

/-- A control write with wValue and wIndex 0 (30_encoding.md R76). -/
def plainOut (bRequest : Byte) (payload : List Byte) : Request :=
  .ctrlOut bRequest 0#16 0#16 payload

/-- A control read of two bytes with wValue and wIndex 0 (30_encoding.md R76, R82). -/
def plainIn (bRequest : Byte) : Request := .ctrlIn bRequest 0#16 0#16 2

/-- BULK_EP_OUT (00_scope.md R6). -/
def bulkEndpoint : Byte := 0x01#8

/-- A bulk write to endpoint 0x01 (20_memory.md R55, 30_encoding.md R77). -/
def bulkWrite (payload : List Byte) : Request := .bulkOut bulkEndpoint (envelope payload)

/-! ## Payloads (30_encoding.md R78 to R82) -/

/-- The SPI-mode control word (30_encoding.md R78). -/
def spiModeWord (cpol cpha : Nat) : Byte :=
  (BitVec.ofNat 8 cpha <<< 5) ||| (BitVec.ofNat 8 cpol <<< 4) ||| 0x08#8

/-- SPI_MODE (41_spi_config.md R101). -/
def spiModeRequest (ch cpol cpha : Nat) : Request :=
  plainOut 0x31#8 [BitVec.ofNat 8 ch, spiModeWord cpol cpha]

/-- CS_SELECT (30_encoding.md R79, 41_spi_config.md R102). -/
def csSelectRequest (ch : Nat) : Request := plainOut 0x25#8 [BitVec.ofNat 8 ch, 0x02#8]

/-- CS_DISABLE (30_encoding.md R79, 41_spi_config.md R103). -/
def csDisableRequest (ch : Nat) : Request := plainOut 0x25#8 [BitVec.ofNat 8 ch, 0x00#8]

/-- DELAY_DISABLE (30_encoding.md R80, 41_spi_config.md R104). -/
def delayDisableRequest (ch : Nat) : Request :=
  plainOut 0x33#8 [BitVec.ofNat 8 ch, 0#8, 0#8, 0#8, 0#8, 0#8, 0#8, 0#8]

/-- GPIO_GET (42_gpio.md R116). -/
def gpioGetRequest : Request := plainIn 0x20#8

/-- `byte(p)` of GPIO_MAP (42_gpio.md R115). -/
def Pin.byteIndex : Pin → Nat
  | .b0_0 => 0
  | .b0_2 => 0
  | .b1_5 => 1
  | .b1_6 => 1
  | .b1_7 => 1

/-- `bit(p)` of GPIO_MAP (42_gpio.md R115). -/
def Pin.bitIndex : Pin → Nat
  | .b0_0 => 0
  | .b0_2 => 2
  | .b1_5 => 5
  | .b1_6 => 6
  | .b1_7 => 7

/-- A byte at the pin's own byte index and zero at the other. -/
def Pin.place (p : Pin) (b : Byte) : Bytes2 :=
  if p.byteIndex = 0 then ⟨b, 0#8⟩ else ⟨0#8, b⟩

/-- The mask pair of GPIO_SET (30_encoding.md R81, 42_gpio.md R117). -/
def gpioMask (p : Pin) : Bytes2 := p.place (1#8 <<< p.bitIndex)

/-- The data pair of GPIO_SET (30_encoding.md R81, 42_gpio.md R117). -/
def gpioData (p : Pin) (level : Nat) : Bytes2 := p.place (BitVec.ofNat 8 level <<< p.bitIndex)

/-- GPIO_SET (42_gpio.md R117): payload `[d0, d1, m0, m1]`. -/
def gpioSetRequest (p : Pin) (level : Nat) : Request :=
  plainOut 0x21#8 ((gpioData p level).toList ++ (gpioMask p).toList)

/-- OTP_QUERY (43_device_control.md R130). -/
def otpQueryRequest : Request := plainIn 0x6E#8

/-- OTP_LOCK (43_device_control.md R131): the one control request with its own wValue. -/
def otpLockRequest (wValue : Half) : Request := .ctrlOut 0x6F#8 wValue 0#16 [0#8, 0#8]

/-- RESET (43_device_control.md R132). -/
def resetRequest : Request := plainOut 0x10#8 []

/-! ## DDS and amplitude words (30_encoding.md R83, R87, R89 to R92) -/

/-- The tag of a frequency word, in `w[15:14]` (30_encoding.md R83). -/
def FreqReg.tag : FreqReg → BitVec 2
  | .freq0 => 0b01#2
  | .freq1 => 0b10#2

/-- The tag of a phase word, in `w[15:12]` (30_encoding.md R83). -/
def PhaseReg.tag : PhaseReg → BitVec 4
  | .phase0 => 0b1100#4
  | .phase1 => 0b1110#4

/-- `tag | v[13:0]`, the first frequency word (44_dds.md R140). -/
def freqWordLow (r : FreqReg) (v : BitVec 28) : Half := r.tag ++ v.extractLsb' 0 14

/-- `tag | v[27:14]`, the second frequency word (44_dds.md R140). -/
def freqWordHigh (r : FreqReg) (v : BitVec 28) : Half := r.tag ++ v.extractLsb' 14 14

/-- The phase word (44_dds.md R141). -/
def phaseWord (r : PhaseReg) (v : BitVec 12) : Half := r.tag ++ v

/-- The number of places AMP_SHIFT stands for (92_eei_decisions.md D14). -/
def AmpShift.places : AmpShift → Nat
  | .zero => 0
  | .two => 2

/-- The amplitude word (44_dds.md R142). -/
def ampWord (sh : AmpShift) (value : Nat) : Half :=
  (BitVec.ofNat 16 value <<< sh.places) &&& 0x0FFF#16

/-- The control word of DDS_SHAPE (44_dds.md R143). -/
def shapeWord : Shape → Half
  | .sine => 0x2200#16
  | .triangle => 0x2202#16

/-- DDS_FREQ (30_encoding.md R89): the word of bits 13:0 goes first. -/
def ddsFreqRequest (r : FreqReg) (value : Nat) : Request :=
  bulkWrite (be16 (freqWordLow r (BitVec.ofNat 28 value)) ++ be16 (freqWordHigh r (BitVec.ofNat 28 value)))

/-- DDS_PHASE (30_encoding.md R90). -/
def ddsPhaseRequest (r : PhaseReg) (value : Nat) : Request :=
  bulkWrite (be16 (phaseWord r (BitVec.ofNat 12 value)))

/-- DDS_AMP (30_encoding.md R91). -/
def ddsAmpRequest (sh : AmpShift) (value : Nat) : Request := bulkWrite (be16 (ampWord sh value))

/-- DDS_SHAPE (30_encoding.md R92). -/
def ddsShapeRequest (s : Shape) : Request := bulkWrite (be16 (shapeWord s))

/-! ## The decoder (30_encoding.md R93, R94, R96) -/

/-- Why a byte string is no block output (30_encoding.md R96). -/
inductive Reject where
  /-- The length does not agree with the length rule of R94. -/
  | badLength
  /-- No row of the opcode table matches. -/
  | noRow
  /-- An amplitude word that this AMP_SHIFT never produces (95_test_vectors.md D29). -/
  | ampAlignment
  deriving DecidableEq, Repr, Inhabited

/-- One row of opcode_table.json: its match and mask bytes, and how its fields give the operands. -/
structure Row where
  pattern : List Byte
  mask : List Byte
  build : AmpShift → List Byte → Option Instr

/-- `(image & mask) == match` over the whole row, lengths equal (30_encoding.md R96). -/
def Row.hits (row : Row) (bs : List Byte) : Bool :=
  decide (bs.length = row.pattern.length) && decide (List.zipWith (· &&& ·) bs row.mask = row.pattern)

/-- Bit `k` of byte `n` of an image, as an operand. -/
def bitAt (bs : List Byte) (n k : Nat) : Nat := if (byteAt bs n).getLsbD k then 1 else 0

/-- The frequency of a 4-byte payload at offset 8 (30_encoding.md R96). -/
def freqAt (bs : List Byte) : Nat :=
  ((be16At bs 10).extractLsb' 0 14 ++ (be16At bs 8).extractLsb' 0 14).toNat

/-- The phase of a word at offset 8 (30_encoding.md R96). -/
def phaseAt (bs : List Byte) : Nat := ((be16At bs 8).extractLsb' 0 12).toNat

/-- The amplitude of a word (30_encoding.md R96), where the word is one this AMP_SHIFT produces
(95_test_vectors.md D29). The zero word carries 0 under either shift (vector D14). -/
def ampValue? (sh : AmpShift) (w : Half) : Option Nat :=
  if w.toNat = 0 then some 0
  else if w.toNat % 2 ^ sh.places = 0 ∧ w.toNat / 2 ^ sh.places < 2 ^ 10 then
    some (w.toNat / 2 ^ sh.places)
  else none

/-- The control-write row of one GPIO pin. -/
def gpioRow (p : Pin) (pattern mask : List Byte) (mk : Nat → Instr) : Row where
  pattern := pattern
  mask := mask
  build := fun _ bs => some (mk (bitAt bs (8 + p.byteIndex) p.bitIndex))

/-- The rows of opcode_table.json that have an image, in the table's order. -/
def rows : List Row := [
  -- SPI_MODE
  { pattern := [0x40#8, 0x31#8, 0#8, 0#8, 0#8, 0#8, 2#8, 0#8, 0#8, 0x08#8],
    mask := [255#8, 255#8, 255#8, 255#8, 255#8, 255#8, 255#8, 255#8, 0#8, 0xCF#8],
    build := fun _ bs => some (.spiMode (byteAt bs 8).toNat (bitAt bs 9 4) (bitAt bs 9 5)) },
  -- CS_SELECT
  { pattern := [0x40#8, 0x25#8, 0#8, 0#8, 0#8, 0#8, 2#8, 0#8, 0#8, 2#8],
    mask := [255#8, 255#8, 255#8, 255#8, 255#8, 255#8, 255#8, 255#8, 0#8, 255#8],
    build := fun _ bs => some (.csSelect (byteAt bs 8).toNat) },
  -- CS_DISABLE
  { pattern := [0x40#8, 0x25#8, 0#8, 0#8, 0#8, 0#8, 2#8, 0#8, 0#8, 0#8],
    mask := [255#8, 255#8, 255#8, 255#8, 255#8, 255#8, 255#8, 255#8, 0#8, 255#8],
    build := fun _ bs => some (.csDisable (byteAt bs 8).toNat) },
  -- DELAY_DISABLE
  { pattern := [0x40#8, 0x33#8, 0#8, 0#8, 0#8, 0#8, 8#8, 0#8, 0#8, 0#8, 0#8, 0#8, 0#8, 0#8, 0#8, 0#8],
    mask := [255#8, 255#8, 255#8, 255#8, 255#8, 255#8, 255#8, 255#8,
             0#8, 255#8, 255#8, 255#8, 255#8, 255#8, 255#8, 255#8],
    build := fun _ bs => some (.delayDisable (byteAt bs 8).toNat) },
  -- GPIO_GET
  { pattern := [0xC0#8, 0x20#8, 0#8, 0#8, 0#8, 0#8, 2#8, 0#8],
    mask := [255#8, 255#8, 255#8, 255#8, 255#8, 255#8, 255#8, 255#8],
    build := fun _ _ => some .gpioGet },
  -- GPIO_SET, one row per pin
  gpioRow .b0_0 [0x40#8, 0x21#8, 0#8, 0#8, 0#8, 0#8, 4#8, 0#8, 0#8, 0#8, 0x01#8, 0#8]
    [255#8, 255#8, 255#8, 255#8, 255#8, 255#8, 255#8, 255#8, 0xFE#8, 255#8, 255#8, 255#8] .gpioSetB0b0,
  gpioRow .b0_2 [0x40#8, 0x21#8, 0#8, 0#8, 0#8, 0#8, 4#8, 0#8, 0#8, 0#8, 0x04#8, 0#8]
    [255#8, 255#8, 255#8, 255#8, 255#8, 255#8, 255#8, 255#8, 0xFB#8, 255#8, 255#8, 255#8] .gpioSetB0b2,
  gpioRow .b1_5 [0x40#8, 0x21#8, 0#8, 0#8, 0#8, 0#8, 4#8, 0#8, 0#8, 0#8, 0#8, 0x20#8]
    [255#8, 255#8, 255#8, 255#8, 255#8, 255#8, 255#8, 255#8, 255#8, 0xDF#8, 255#8, 255#8] .gpioSetB1b5,
  gpioRow .b1_6 [0x40#8, 0x21#8, 0#8, 0#8, 0#8, 0#8, 4#8, 0#8, 0#8, 0#8, 0#8, 0x40#8]
    [255#8, 255#8, 255#8, 255#8, 255#8, 255#8, 255#8, 255#8, 255#8, 0xBF#8, 255#8, 255#8] .gpioSetB1b6,
  gpioRow .b1_7 [0x40#8, 0x21#8, 0#8, 0#8, 0#8, 0#8, 4#8, 0#8, 0#8, 0#8, 0#8, 0x80#8]
    [255#8, 255#8, 255#8, 255#8, 255#8, 255#8, 255#8, 255#8, 255#8, 0x7F#8, 255#8, 255#8] .gpioSetB1b7,
  -- OTP_QUERY
  { pattern := [0xC0#8, 0x6E#8, 0#8, 0#8, 0#8, 0#8, 2#8, 0#8],
    mask := [255#8, 255#8, 255#8, 255#8, 255#8, 255#8, 255#8, 255#8],
    build := fun _ _ => some .otpQuery },
  -- OTP_LOCK: wValue is not matched
  { pattern := [0x40#8, 0x6F#8, 0#8, 0#8, 0#8, 0#8, 2#8, 0#8, 0#8, 0#8],
    mask := [255#8, 255#8, 0#8, 0#8, 255#8, 255#8, 255#8, 255#8, 255#8, 255#8],
    build := fun _ _ => some .otpLock },
  -- RESET
  { pattern := [0x40#8, 0x10#8, 0#8, 0#8, 0#8, 0#8, 0#8, 0#8],
    mask := [255#8, 255#8, 255#8, 255#8, 255#8, 255#8, 255#8, 255#8],
    build := fun _ _ => some .reset },
  -- DDS_FREQ FREQ0 and FREQ1
  { pattern := [0#8, 0#8, 1#8, 0#8, 4#8, 0#8, 0#8, 0#8, 0x40#8, 0#8, 0x40#8, 0#8],
    mask := [255#8, 255#8, 255#8, 255#8, 255#8, 255#8, 255#8, 255#8, 0xC0#8, 0#8, 0xC0#8, 0#8],
    build := fun _ bs => some (.ddsFreq0 (freqAt bs)) },
  { pattern := [0#8, 0#8, 1#8, 0#8, 4#8, 0#8, 0#8, 0#8, 0x80#8, 0#8, 0x80#8, 0#8],
    mask := [255#8, 255#8, 255#8, 255#8, 255#8, 255#8, 255#8, 255#8, 0xC0#8, 0#8, 0xC0#8, 0#8],
    build := fun _ bs => some (.ddsFreq1 (freqAt bs)) },
  -- DDS_PHASE PHASE0 and PHASE1
  { pattern := [0#8, 0#8, 1#8, 0#8, 2#8, 0#8, 0#8, 0#8, 0xC0#8, 0#8],
    mask := [255#8, 255#8, 255#8, 255#8, 255#8, 255#8, 255#8, 255#8, 0xF0#8, 0#8],
    build := fun _ bs => some (.ddsPhase0 (phaseAt bs)) },
  { pattern := [0#8, 0#8, 1#8, 0#8, 2#8, 0#8, 0#8, 0#8, 0xE0#8, 0#8],
    mask := [255#8, 255#8, 255#8, 255#8, 255#8, 255#8, 255#8, 255#8, 0xF0#8, 0#8],
    build := fun _ bs => some (.ddsPhase1 (phaseAt bs)) },
  -- DDS_AMP
  { pattern := [0#8, 0#8, 1#8, 0#8, 2#8, 0#8, 0#8, 0#8, 0#8, 0#8],
    mask := [255#8, 255#8, 255#8, 255#8, 255#8, 255#8, 255#8, 255#8, 0xF0#8, 0#8],
    build := fun sh bs => (ampValue? sh (be16At bs 8)).map .ddsAmp },
  -- DDS_SHAPE
  { pattern := [0#8, 0#8, 1#8, 0#8, 2#8, 0#8, 0#8, 0#8, 0x22#8, 0#8],
    mask := [255#8, 255#8, 255#8, 255#8, 255#8, 255#8, 255#8, 255#8, 255#8, 0xFD#8],
    build := fun _ bs => some (.ddsShape (if bitAt bs 9 1 = 1 then .triangle else .sine)) }]

/-- Length determination (30_encoding.md R94): the length an image with this header has. -/
def imageLength (bs : List Byte) : Option Nat :=
  if bs.length < 8 then none
  else if byteAt bs 0 = 0x40#8 then some (8 + (byteAt bs 7 ++ byteAt bs 6).toNat)
  else if byteAt bs 0 = 0xC0#8 then some 8
  else if byteAt bs 0 = 0x00#8 then
    some (8 + (byteAt bs 7 ++ byteAt bs 6 ++ byteAt bs 5 ++ byteAt bs 4).toNat)
  else none

/-- Inverse decoding (30_encoding.md R96): the instruction a request image names, or why it is no
block output. AMP_SHIFT is an argument, since an amplitude word cannot be read without it
(95_test_vectors.md D29). -/
def decode (sh : AmpShift) (bs : List Byte) : Except Reject Instr :=
  if imageLength bs = some bs.length then
    match rows.find? (fun row => row.hits bs) with
    | some row =>
      match row.build sh bs with
      | some i => .ok i
      | none => .error .ampAlignment
    | none => .error .noRow
  else .error .badLength

/-- The bytes of an image given as one number: byte `k` is bits `8k+7..8k`. Where the number of bits
is short of the length R94 gives, zero bytes follow, up to the longest image (16 bytes). -/
def tableBytes (nbits w : Nat) : List Byte :=
  let bs := (List.range (nbits / 8)).map fun k => BitVec.ofNat 8 (w >>> (8 * k))
  bs ++ List.replicate (min 16 ((imageLength bs).getD 0) - bs.length) 0#8

/-- The instruction the decoder reads from an image given as one number, with AMP_SHIFT as the OPEN
parameter has it (log 25). -/
def decodeTableWord (nbits w : Nat) : Option Instr :=
  match decode Config.params.ampShift (tableBytes nbits w) with
  | .ok i => some i
  | .error _ => none

/-! ## The encoder -/

/-- The request a command issues (30_encoding.md R95: a function of the operands and the fixed
parameters alone). MORSE and the micro-operations have no image of their own (R99). -/
def Instr.request (p : Params) : Instr → Option Request
  | .spiMode ch cpol cpha => some (spiModeRequest ch cpol cpha)
  | .csSelect ch => some (csSelectRequest ch)
  | .csDisable ch => some (csDisableRequest ch)
  | .delayDisable ch => some (delayDisableRequest ch)
  | .gpioGet => some gpioGetRequest
  | .gpioSetB0b0 level => some (gpioSetRequest .b0_0 level)
  | .gpioSetB0b2 level => some (gpioSetRequest .b0_2 level)
  | .gpioSetB1b5 level => some (gpioSetRequest .b1_5 level)
  | .gpioSetB1b6 level => some (gpioSetRequest .b1_6 level)
  | .gpioSetB1b7 level => some (gpioSetRequest .b1_7 level)
  | .otpQuery => some otpQueryRequest
  | .otpLock => some (otpLockRequest p.otpLockWValue)
  | .reset => some resetRequest
  | .ddsFreq0 value => some (ddsFreqRequest .freq0 value)
  | .ddsFreq1 value => some (ddsFreqRequest .freq1 value)
  | .ddsPhase0 value => some (ddsPhaseRequest .phase0 value)
  | .ddsPhase1 value => some (ddsPhaseRequest .phase1 value)
  | .ddsAmp value => some (ddsAmpRequest p.ampShift value)
  | .ddsShape s => some (ddsShapeRequest s)
  | .morse _ => none
  | .seqPrecheck => none
  | .seqEnd => none
  | .seqSkipWs => none
  | .seqSkipUnmapped => none
  | .seqCharGap => none
  | .seqWordGap => none
  | .seqCharStart => none
  | .seqDot => none
  | .seqDash => none

/-- The image of the request an instruction issues (30_encoding.md R75). -/
def encode (p : Params) (i : Instr) : Option (List Byte) := (i.request p).map Request.image

end Sys2Proof
end

