-- ==== Sys2Proof/Machine/Operands.lean ====
section
/-! DEFINITION. Operand forms: channels, pins, levels, delays in units, the bytes of a message and
their classes. -/

namespace Sys2Proof.Machine

/-! ## Channels (00_scope.md R6, 10_state.md R33, R34) -/

/-- The channel a byte names, if it is in CHANNEL_DOMAIN. -/
def channelOf (b : Byte) : Option Channel :=
  if b = 0#8 then some .ch0 else if b = 1#8 then some .ch1 else none

/-- The value a channel has. -/
def channelGet {α : Type} (m : PerChannel α) : Channel → α
  | .ch0 => m.ch0
  | .ch1 => m.ch1

/-- Give one channel a value and leave the other alone. -/
def channelSet {α : Type} (m : PerChannel α) (c : Channel) (v : α) : PerChannel α :=
  match c with
  | .ch0 => { m with ch0 := v }
  | .ch1 => { m with ch1 := v }

/-- The set `{ch}` (20_memory.md R64). -/
def onlyChannel (c : Channel) : PerChannel Bool :=
  match c with
  | .ch0 => ⟨true, false⟩
  | .ch1 => ⟨false, true⟩

/-- The one member of `E.cs`, if it has exactly one (20_memory.md R66). -/
def soleChannel (cs : PerChannel Bool) : Option Channel :=
  match cs.ch0, cs.ch1 with
  | true, false => some .ch0
  | false, true => some .ch1
  | _, _ => none

/-! ## Pins and levels (42_gpio.md R115, 30_encoding.md R86, R87) -/

/-- The pin of GPIO_MAP at a (byte, bit) position, if there is one. -/
def pinAt (byte bit : Nat) : Option Pin :=
  [Pin.b0_0, .b0_2, .b1_5, .b1_6, .b1_7].find? fun p => p.byteIndex = byte ∧ p.bitIndex = bit

/-- A level as the operand of GPIO_SET. -/
def levelOf (b : Bool) : Nat := if b then 1 else 0

/-- The level that makes DAC-enable active: DAC_EN_ACTIVE_LEVEL (92_eei_decisions.md D7). -/
def dacOnLevel (p : Params) : Nat := levelOf p.dacEnActive

/-- The level that makes DAC-enable inactive: 1 - DAC_EN_ACTIVE_LEVEL (30_encoding.md R86). -/
def dacOffLevel (p : Params) : Nat := 1 - dacOnLevel p

/-- The pins other than the given one, in the order of GPIO_MAP. -/
def otherPins (p : Pin) : List Pin := [Pin.b0_0, .b0_2, .b1_5, .b1_6, .b1_7].filter (· ≠ p)

/-- GEN_STATUS_PIN: one pin of GPIO_MAP, distinct from DAC_EN_PIN (00_scope.md R6). -/
def genStatusPin (p : Params) : Pin := (otherPins p.dacEnPin).getD p.genStatusSlot.val .b0_0

/-- The request of DAC_ON (30_encoding.md R86). -/
def dacOnRequest (p : Params) : Request := gpioSetRequest p.dacEnPin (dacOnLevel p)

/-- The request of DAC_OFF (30_encoding.md R86). -/
def dacOffRequest (p : Params) : Request := gpioSetRequest p.dacEnPin (dacOffLevel p)

/-! ## Fixed parameters (00_scope.md R6) -/

/-- USB_VID, the vendor identity of the device the block addresses (20_memory.md R57). Selecting the
device is outside the block. -/
def usbVid : Nat := 0x10C4

/-- USB_PID (20_memory.md R57). -/
def usbPid : Nat := 0x8BF1

/-- UNIT_MS. -/
def unitMs : Nat := 50

/-- TIMEOUT_MS. -/
def timeoutMs : Nat := 100

/-- The units DAC-enable is held active for a symbol: DOT_UNITS and DASH_UNITS. -/
def holdUnits : Symbol → Nat
  | .dot => 1
  | .dash => 3

/-- INTRA_GAP_UNITS. -/
def intraGapUnits : Nat := 1

/-- CHAR_GAP_UNITS. -/
def charGapUnits : Nat := 2

/-- WORD_GAP_UNITS. -/
def wordGapUnits : Nat := 4

/-! ## Bytes of a message (45_morse.md R160 to R164) -/

/-- Membership of WS_SET = {0x20, 0x0A} (92_eei_decisions.md D18). -/
def isWs (c : Byte) : Bool := c = 0x20#8 || c = 0x0A#8

/-- `fold(c)` (45_morse.md R163). -/
def fold (c : Byte) : Byte := if 0x61 ≤ c.toNat ∧ c.toNat ≤ 0x7A then c - 0x20#8 else c

/-- LETTER_DIGIT_TABLE (45_morse.md R161). -/
def letterDigitTable : List (Byte × List Symbol) := [
  (0x41#8, [.dot, .dash]),                       -- A
  (0x42#8, [.dash, .dot, .dot, .dot]),           -- B
  (0x43#8, [.dash, .dot, .dash, .dot]),          -- C
  (0x44#8, [.dash, .dot, .dot]),                 -- D
  (0x45#8, [.dot]),                              -- E
  (0x46#8, [.dot, .dot, .dash, .dot]),           -- F
  (0x47#8, [.dash, .dash, .dot]),                -- G
  (0x48#8, [.dot, .dot, .dot, .dot]),            -- H
  (0x49#8, [.dot, .dot]),                        -- I
  (0x4A#8, [.dot, .dash, .dash, .dash]),         -- J
  (0x4B#8, [.dash, .dot, .dash]),                -- K
  (0x4C#8, [.dot, .dash, .dot, .dot]),           -- L
  (0x4D#8, [.dash, .dash]),                      -- M
  (0x4E#8, [.dash, .dot]),                       -- N
  (0x4F#8, [.dash, .dash, .dash]),               -- O
  (0x50#8, [.dot, .dash, .dash, .dot]),          -- P
  (0x51#8, [.dash, .dash, .dot, .dash]),         -- Q
  (0x52#8, [.dot, .dash, .dot]),                 -- R
  (0x53#8, [.dot, .dot, .dot]),                  -- S
  (0x54#8, [.dash]),                             -- T
  (0x55#8, [.dot, .dot, .dash]),                 -- U
  (0x56#8, [.dot, .dot, .dot, .dash]),           -- V
  (0x57#8, [.dot, .dash, .dash]),                -- W
  (0x58#8, [.dash, .dot, .dot, .dash]),          -- X
  (0x59#8, [.dash, .dot, .dash, .dash]),         -- Y
  (0x5A#8, [.dash, .dash, .dot, .dot]),          -- Z
  (0x30#8, [.dash, .dash, .dash, .dash, .dash]), -- 0
  (0x31#8, [.dot, .dash, .dash, .dash, .dash]),  -- 1
  (0x32#8, [.dot, .dot, .dash, .dash, .dash]),   -- 2
  (0x33#8, [.dot, .dot, .dot, .dash, .dash]),    -- 3
  (0x34#8, [.dot, .dot, .dot, .dot, .dash]),     -- 4
  (0x35#8, [.dot, .dot, .dot, .dot, .dot]),      -- 5
  (0x36#8, [.dash, .dot, .dot, .dot, .dot]),     -- 6
  (0x37#8, [.dash, .dash, .dot, .dot, .dot]),    -- 7
  (0x38#8, [.dash, .dash, .dash, .dot, .dot]),   -- 8
  (0x39#8, [.dash, .dash, .dash, .dash, .dot])]  -- 9

/-- The code a table gives a byte. -/
def tableLookup (t : List (Byte × List Symbol)) (b : Byte) : Option (List Symbol) :=
  (t.find? fun e => e.1 = b).map (·.2)

/-- The bytes 45_morse.md R162 admits as keys of PUNCT_TABLE. -/
def punctKey (b : Byte) : Bool :=
  !(decide (0x41 ≤ b.toNat ∧ b.toNat ≤ 0x5A) || decide (0x61 ≤ b.toNat ∧ b.toNat ≤ 0x7A)
    || decide (0x30 ≤ b.toNat ∧ b.toNat ≤ 0x39) || isWs b)

/-- PUNCT_TABLE as far as 45_morse.md R162 admits it: other keys and empty codes are no entries. -/
def punctCode (p : Params) (b : Byte) : Option (List Symbol) :=
  if punctKey b then (tableLookup p.punct b).filter (fun c => !c.isEmpty) else none

/-- `TABLE`, the union of the two tables, on a folded byte (45_morse.md R160). -/
def tableCode (p : Params) (b : Byte) : Option (List Symbol) :=
  (tableLookup letterDigitTable b).or (punctCode p b)

/-- The classes of 45_morse.md R164. -/
inductive ByteClass where
  | ws
  | mapped
  | unmapped
  deriving DecidableEq, Repr

/-- The class of a message byte (45_morse.md R164). -/
def classOf (p : Params) (c : Byte) : ByteClass :=
  if isWs c then .ws else if (tableCode p (fold c)).isSome then .mapped else .unmapped

end Sys2Proof.Machine
end

