-- ==== Sys2Proof/Machine/State.lean ====
section
/-! DEFINITION. The state of the machine, its faults and refusals, and the state after block reset. -/

namespace Sys2Proof.Machine

/-- `S.result` (10_state.md R21, 60_exceptions.md R200). -/
inductive Result where
  | none
  | ok
  | fail
  | precondGenOff
  | precondDacOn
  deriving DecidableEq, Repr, Inhabited

/-- `S.phase` (10_state.md R30). -/
inductive Phase where
  | idle
  | precheck
  | fetch
  | charGap
  | wordGap
  | charStart
  | symOn
  | symHold
  | symOff
  | symGap
  deriving DecidableEq, Repr, Inhabited

/-- The response to a call (20_memory.md R50): the number of bytes transferred and, for a read, the
bytes received; or `iofail`. -/
inductive Reply where
  | iofail
  | ok (k : Nat) (data : List Byte)
  deriving DecidableEq, Repr, Inhabited

/-- The events of a trace (00_scope.md R14). -/
inductive Event where
  | xfer (request : Request) (reply : Reply)
  | delay (units : Nat)
  | echo (b : Byte)
  deriving DecidableEq, Repr, Inhabited

/-- An accumulator entry (10_state.md R22). -/
structure Entry where
  op : Op
  req : ReqId
  msg : Msg
  deriving DecidableEq, Repr, Inhabited

/-- The error accumulator (10_state.md R21, R22). -/
structure Acc where
  entries : List Entry
  count : Nat
  deriving DecidableEq, Repr, Inhabited

/-- How a caller names a command at the command port: the typed record (30_encoding.md R84), a line
of assembler text (R85), or the request image of a command that has one (R75, R96). -/
inductive PortItem where
  | record (c : Command)
  | line (text : List Byte)
  | image (bytes : List Byte)
  deriving DecidableEq, Repr, Inhabited

/-- One presentation at the command port. A caller that `waits` presents it once the result port is
valid (10_state.md R31); one that does not presents it at once, busy or not
(70_reset_and_hazards.md R242). -/
structure Presentation where
  item : PortItem
  waits : Bool
  deriving DecidableEq, Repr, Inhabited

/-- The state: the block's record S (10_state.md R21), the device-side state E (R32 to R37), the
ports (R31) as plain data, and the model's own `params`, `answers` and `calls`. -/
structure State where
  /-- The OPEN parameters (00_scope.md R6), never written. -/
  params : Params
  /-- `S.busy` -/
  busy : Bool
  /-- `S.result` -/
  result : Result
  /-- `S.rdata` -/
  rdata : Bytes2
  /-- `S.acc` -/
  acc : Acc
  /-- `S.phase` -/
  phase : Phase
  /-- `S.txt` -/
  txt : List Byte
  /-- `S.pos` -/
  pos : Nat
  /-- `S.lastWS` -/
  lastWS : Bool
  /-- `S.pendGap` -/
  pendGap : Bool
  /-- `S.code` -/
  code : List Symbol
  /-- `S.sym` -/
  sym : Nat
  /-- The device-side state E. -/
  dev : Device
  /-- Whether the device handle exists (70_reset_and_hazards.md R229). -/
  handle : Bool
  /-- The command port: what is still to be presented, the next first. -/
  port : List Presentation
  /-- The device's answers to the coming calls, the next first; past its end, free draws. -/
  answers : List Answer
  /-- The number of calls issued: the index of the free draws. -/
  calls : Nat
  /-- The events so far, the oldest first (00_scope.md R14). -/
  trace : List Event
  deriving DecidableEq, Repr

/-- The reasons a step stops the machine. The spec's own faults (TransferError, the precondition
verdicts) do not stop it: they give a next state (60_exceptions.md R204, R205). -/
inductive Fault where
  /-- Raised by the sequencer in a state that no rule of 45_morse.md covers (a position past the end
  of the text, a symbol phase without a current symbol). No run from reset reaches one. Safe. -/
  | noRule
  deriving DecidableEq, Repr

/-- The reasons an instruction is refused: no event is issued and no state changes. -/
inductive Refusal where
  /-- Raised by `exec` for an instruction that has no meaning in the model yet. Safe. -/
  | notModelled (mnemonic : String)
  /-- Raised by every command presented while `S.busy` is true (30_encoding.md R88). Safe. -/
  | busy
  /-- Raised by a command with an operand wider than its width (30_encoding.md R88). Safe. -/
  | operandTooWide
  /-- Raised at the port by DDS_FREQ with a PHASE tag, or DDS_PHASE with a FREQ tag
  (30_encoding.md R88). Safe. -/
  | wrongTagKind
  /-- Raised at the port by GPIO_SET of a pin that is not in GPIO_MAP (30_encoding.md R88). Safe. -/
  | pinNotMapped
  /-- Raised by a micro-operation outside the sequencer state its rule names: it is an internal
  step, not a command (30_encoding.md R99). Safe. -/
  | microOpNotDue
  /-- Raised at the port by an image that is no block output (30_encoding.md R96). Safe. -/
  | notBlockOutput (why : Reject)
  /-- Raised at the port by a line that is no command of 30_encoding.md R85. Safe. -/
  | badSyntax
  deriving DecidableEq, Repr

/-- The machine right after block reset (70_reset_and_hazards.md R225, R228). -/
def State.reset : State where
  params := Config.params
  busy := false
  result := .none
  rdata := Config.rdataAtReset
  acc := ⟨[], 0⟩
  phase := .idle
  txt := []
  pos := 0
  lastWS := true
  pendGap := false
  code := []
  sym := 0
  dev := Config.deviceAtReset
  handle := Config.handleAtReset
  port := []
  answers := []
  calls := 0
  trace := []

end Sys2Proof.Machine
end

