-- ==== Sys2Proof/Machine/Device.lean ====
section
/-! DEFINITION. The device-side reference model (20_memory.md R63 to R70): what a transfer that
succeeded, or one that ended in a transport error, does to the device-side state, and what a read
returns. In every definition `f` is a free draw of a whole device state (log 7). -/

namespace Sys2Proof.Machine

/-- A free draw for everything but the OTP lock bytes: the device after a RESET (20_memory.md R70;
log 27). -/
def allButOtp (f d : Device) : Device := { f with otp := d.otp }

/-- A free draw for every field, where the spec gives no device effect (93 U8, U15; log 8, log 31). OTP
lock bytes that are both zero stay so, since once they are they never change again (10_state.md R35). -/
def anyDevice (f d : Device) : Device := if d.otp = ⟨0#8, 0#8⟩ then allButOtp f d else f

/-! ## Bridge: GPIO, chip-select, channel configuration, OTP -/

/-- `(old & ~m) | (new & m)`, byte by byte (20_memory.md R63). -/
def maskedBytes (old new m : Bytes2) : Bytes2 :=
  ⟨(old.b0 &&& ~~~m.b0) ||| (new.b0 &&& m.b0), (old.b1 &&& ~~~m.b1) ||| (new.b1 &&& m.b1)⟩

/-- GPIO_SET at the device (20_memory.md R63); on a transport error the masked bits are free (R53,
95_test_vectors.md G12). -/
def gpioWrite (good : Bool) (f d : Device) (data mask : Bytes2) : Device :=
  { d with gpio := maskedBytes d.gpio (if good then data else f.gpio) mask }

/-- Chip-select control with flag 0x02 (20_memory.md R64). On a transport error the whole set is
free (R53); so it is for a channel outside CHANNEL_DOMAIN (93 U9; log 8). -/
def csSelectWrite (good : Bool) (f d : Device) (ch : Byte) : Device :=
  match good, channelOf ch with
  | true, some c => { d with cs := onlyChannel c }
  | _, _ => { d with cs := f.cs }

/-- Chip-select control with flag 0x00 (20_memory.md R64). On a transport error the named channel's
membership is free (R53), and "other channels are never affected" (41_spi_config.md R103); for a
channel outside CHANNEL_DOMAIN the whole set is free (93 U9; log 8). -/
def csDisableWrite (good : Bool) (f d : Device) (ch : Byte) : Device :=
  match channelOf ch with
  | some c => { d with cs := channelSet d.cs c (if good then false else channelGet f.cs c) }
  | none => { d with cs := f.cs }

/-- SPI mode at the device (20_memory.md R65); free on a transport error (R53); undefined for a
channel outside CHANNEL_DOMAIN (93 U8; log 8). -/
def spiModeWrite (good : Bool) (f d : Device) (ch w : Byte) : Device :=
  match channelOf ch with
  | some c => { d with spiword := channelSet d.spiword c (if good then w else channelGet f.spiword c) }
  | none => anyDevice f d

/-- Delay disable at the device (20_memory.md R65); free on a transport error (R53); undefined for a
channel outside CHANNEL_DOMAIN (93 U8; log 8). -/
def delayDisableWrite (good : Bool) (f d : Device) (ch : Byte) : Device :=
  match channelOf ch with
  | some c =>
    { d with delays := channelSet d.delays c (if good then .zero else channelGet f.delays c) }
  | none => anyDevice f d

/-- OTP lock at the device (20_memory.md R68). On a transport error the bytes are free (R53), unless
the OTP is locked already: then they never change (10_state.md R35; log 28). -/
def otpLockWrite (good : Bool) (f d : Device) : Device :=
  if good then { d with otp := ⟨0#8, 0#8⟩ }
  else if d.otp = ⟨0#8, 0#8⟩ then d
  else { d with otp := f.otp }

/-! ## SPI: the DDS register file and the amplitude register -/

/-- The payload as 16-bit words, `be16`, in order (20_memory.md R66). -/
def spiWords : List Byte → List Half
  | hi :: lo :: rest => (hi ++ lo) :: spiWords rest
  | _ => []

/-- Write one frequency register. -/
def setFreq (d : Dds) (reg : FreqReg) (v : BitVec 28) : Dds :=
  match reg with
  | .freq0 => { d with freq0 := v }
  | .freq1 => { d with freq1 := v }

/-- The value of one frequency register. -/
def getFreq (d : Dds) : FreqReg → BitVec 28
  | .freq0 => d.freq0
  | .freq1 => d.freq1

/-- The register file with one frequency register and the latch free (44_dds.md R146). -/
def freeFreq (f d : Dds) (reg : FreqReg) : Dds := { setFreq d reg (getFreq f reg) with lsw := f.lsw }

/-- Both frequency registers and the latch free (93 U11). -/
def freeFreqs (f d : Dds) : Dds := { d with freq0 := f.freq0, freq1 := f.freq1, lsw := f.lsw }

/-- B28 of the control register (20_memory.md R66). -/
def b28 (d : Dds) : Bool := d.ctrl.getLsbD 13

/-- A frequency word (20_memory.md R66): with B28 = 1 the first is latched and the second writes the
register; a latch that holds the other register makes all three free (93 U11); with B28 = 0 the
words have no meaning here and the whole file is free (93 U12; log 10). -/
def freqWordEffect (f d : Dds) (reg : FreqReg) (v : BitVec 14) : Dds :=
  if b28 d then
    match d.lsw with
    | none => { d with lsw := some (reg, v) }
    | some (r, low) =>
      if r = reg then { setFreq d reg (v ++ low) with lsw := none } else freeFreqs f d
  else f

/-- One SPI word delivered to the DDS (20_memory.md R66). -/
def ddsWord (f d : Dds) (w : Half) : Dds :=
  if w.extractLsb' 14 2 = 0b00#2 then { d with ctrl := w.extractLsb' 0 14 }
  else if w.extractLsb' 14 2 = 0b01#2 then freqWordEffect f d .freq0 (w.extractLsb' 0 14)
  else if w.extractLsb' 14 2 = 0b10#2 then freqWordEffect f d .freq1 (w.extractLsb' 0 14)
  else if w.getLsbD 13 then { d with phase1 := w.extractLsb' 0 12 }
  else { d with phase0 := w.extractLsb' 0 12 }

/-- The words of a payload delivered to the DDS in order; `draw k` is the free draw of word `k`. -/
def ddsWords (draw : Nat → Dds) : Nat → List Half → Dds → Dds
  | _, [], d => d
  | k, w :: ws, d => ddsWords draw (k + 1) ws (ddsWord (draw k) d w)

/-- The registers a frequency word addresses, free: what a transport error may leave of it
(20_memory.md R53, 44_dds.md R146). `d0` is the register file before the transfer. -/
def freqWordTouched (f d0 d : Dds) (reg : FreqReg) : Dds :=
  if b28 d0 then
    match d0.lsw with
    | none => freeFreq f d reg
    | some (r, _) => if r = reg then freeFreq f d reg else freeFreqs f d
  else f

/-- The registers one SPI word addresses, free (20_memory.md R53). -/
def ddsWordTouched (f d0 d : Dds) (w : Half) : Dds :=
  if w.extractLsb' 14 2 = 0b00#2 then { d with ctrl := f.ctrl }
  else if w.extractLsb' 14 2 = 0b01#2 then freqWordTouched f d0 d .freq0
  else if w.extractLsb' 14 2 = 0b10#2 then freqWordTouched f d0 d .freq1
  else if w.getLsbD 13 then { d with phase1 := f.phase1 }
  else { d with phase0 := f.phase0 }

/-- The amplitude register after a payload delivered to AMP_CHANNEL (20_memory.md R67). R67 speaks of
one word; for a payload of another length the register is free (log 11). -/
def ampWrite (sh : AmpShift) (f : BitVec 10) (ws : List Half) : BitVec 10 :=
  match ws with
  | [w] => (w >>> sh.places).extractLsb' 0 10
  | _ => f

/-- A bulk payload that was transferred whole (20_memory.md R66, R67): it goes to the one selected
channel. Where none or several are selected, where it goes is unspecified, and both SPI register
spaces are free (93 U10; log 9). `draw k` is the free draw of word `k`. -/
def bulkDelivered (p : Params) (draw : Nat → Device) (d : Device) (ws : List Half) : Device :=
  match soleChannel d.cs with
  | none => { d with dds := (draw 0).dds, amp := (draw 0).amp }
  | some c =>
    { d with
      dds := if c = p.ddsChannel then ddsWords (fun k => (draw k).dds) 0 ws d.dds else d.dds
      amp := if c = p.ampChannel then ampWrite p.ampShift (draw 0).amp ws else d.amp }

/-- A bulk payload whose transfer ended in a transport error: the registers it addresses are free
(20_memory.md R53). -/
def bulkFailed (p : Params) (f d : Device) (ws : List Half) : Device :=
  match soleChannel d.cs with
  | none => { d with dds := f.dds, amp := f.amp }
  | some c =>
    { d with
      dds := if c = p.ddsChannel then ws.foldl (fun e w => ddsWordTouched f.dds d.dds e w) d.dds else d.dds
      amp := if c = p.ampChannel then f.amp else d.amp }

/-! ## A transfer -/

/-- A GPIO data and mask pair the block can issue: the mask bit of one pin, and no data bit outside it
(30_encoding.md R97). -/
def issuedGpio (data mask : Bytes2) : Bool :=
  [Pin.b0_0, .b0_2, .b1_5, .b1_6, .b1_7].any fun p =>
    mask = gpioMask p && (data = gpioData p 0 || data = gpioData p 1)

/-- A control write with wIndex 0 and its own wValue (20_memory.md R55, R63 to R65, R68, R70). A request
the block never issues has an effect outside the spec (30_encoding.md R97, 93 U15): any device (log 31). -/
def ctrlOutEffect (good : Bool) (f d : Device) (bRequest : Byte) (payload : List Byte) : Device :=
  if bRequest = 0x10#8 then if payload = [] then allButOtp f d else anyDevice f d
  else if bRequest = 0x21#8 then
    match payload with
    | [d0, d1, m0, m1] =>
      if issuedGpio ⟨d0, d1⟩ ⟨m0, m1⟩ then gpioWrite good f d ⟨d0, d1⟩ ⟨m0, m1⟩ else anyDevice f d
    | _ => anyDevice f d
  else if bRequest = 0x25#8 then
    match payload with
    | [ch, flag] =>
      if flag = 0x02#8 then csSelectWrite good f d ch
      else if flag = 0x00#8 then csDisableWrite good f d ch
      else anyDevice f d
    | _ => anyDevice f d
  else if bRequest = 0x31#8 then
    match payload with
    | [ch, w] => if w &&& 0xCF#8 = 0x08#8 then spiModeWrite good f d ch w else anyDevice f d
    | _ => anyDevice f d
  else if bRequest = 0x33#8 then
    match payload with
    | ch :: rest =>
      if rest = List.replicate 7 0#8 then delayDisableWrite good f d ch else anyDevice f d
    | [] => anyDevice f d
  else if bRequest = 0x6F#8 then
    if payload = [0#8, 0#8] then otpLockWrite good f d else anyDevice f d
  else anyDevice f d

/-- The wValue of a control write (30_encoding.md R76). -/
def issuedWValue (p : Params) (bRequest : Byte) : Half :=
  if bRequest = 0x6F#8 then p.otpLockWValue else 0#16

/-- The words of a DDS or amplitude payload the block can issue (30_encoding.md R97): two FREQ words of
one tag; or one word that is a PHASE word with `w[12]` = 0, a SHAPE word, or has top nibble 0. -/
def issuedWords : List Half → Bool
  | [w0, w1] =>
    (w0.extractLsb' 14 2 = 0b01#2 || w0.extractLsb' 14 2 = 0b10#2)
      && w1.extractLsb' 14 2 = w0.extractLsb' 14 2
  | [w] =>
    w.extractLsb' 12 4 = 0b1100#4 || w.extractLsb' 12 4 = 0b1110#4 || w.extractLsb' 12 4 = 0#4
      || w = shapeWord .sine || w = shapeWord .triangle
  | _ => false

/-- A bulk request the block can issue (30_encoding.md R77, R97): to its endpoint, in the envelope of
the write command, with whole words. -/
def issuedBulk (endpoint : Byte) (bytes : List Byte) : Bool :=
  endpoint = bulkEndpoint && bytes = envelope (bytes.drop 8)
    && bytes.drop 8 = (spiWords (bytes.drop 8)).flatMap be16 && issuedWords (spiWords (bytes.drop 8))

/-- The device-side state after call number `n` (20_memory.md R53, part 4). The two reads have no effect
(42_gpio.md R116, 43_device_control.md R130). A request the block never issues has an effect outside the
spec (30_encoding.md R97, 93 U15): any device (log 31). -/
def deviceAfter (p : Params) (n : Nat) (r : Request) (good : Bool) (d : Device) : Device :=
  match r with
  | .ctrlIn b v i k =>
    if (b = 0x20#8 ∨ b = 0x6E#8) ∧ v = 0#16 ∧ i = 0#16 ∧ k = 2 then d
    else anyDevice (Config.freeDevice n 0) d
  | .ctrlOut b v i payload =>
    if v = issuedWValue p b ∧ i = 0#16 then ctrlOutEffect good (Config.freeDevice n 0) d b payload
    else anyDevice (Config.freeDevice n 0) d
  | .bulkOut e bytes =>
    if issuedBulk e bytes then
      if good then bulkDelivered p (Config.freeDevice n) d (spiWords (bytes.drop 8))
      else bulkFailed p (Config.freeDevice n 0) d (spiWords (bytes.drop 8))
    else anyDevice (Config.freeDevice n 0) d

/-- What a successful read returns: GPIO read gives the DAC_EN_PIN bit of `E.gpio` and free draws for
every other bit (20_memory.md R69); OTP query gives `E.otp` (R68). What a read that
the block never issues (30_encoding.md R97) brings is the model's choice (log 31). -/
def readData (p : Params) (bRequest : Byte) (d : Device) (draw : Bytes2) : Bytes2 :=
  if bRequest = 0x20#8 then maskedBytes draw d.gpio (gpioMask p.dacEnPin)
  else if bRequest = 0x6E#8 then d.otp
  else draw

end Sys2Proof.Machine
end

