-- ==== Sys2Proof/Machine/Flags.lean ====
section
/-! DEFINITION. The pure predicates that give the block's verdicts, and the codes of the result
register: the block has no arithmetic flags (10_state.md R28). -/

namespace Sys2Proof.Machine

/-- The codes of `S.result` (60_exceptions.md R200). -/
def Result.code : Result → Nat
  | .none => 0
  | .ok => 1
  | .fail => 2
  | .precondGenOff => 3
  | .precondDacOn => 4

/-- `level(p, rd)`: the one bit of a pin in a two-byte word (42_gpio.md R118). -/
def pinLevel (p : Pin) (rd : Bytes2) : Bool :=
  (if p.byteIndex = 0 then rd.b0 else rd.b1).getLsbD p.bitIndex

/-- `genRunning(rd)` (42_gpio.md R120). -/
def genRunning (p : Params) (rd : Bytes2) : Bool := pinLevel (genStatusPin p) rd == p.genRunning

/-- `dacEnabled(rd)` (42_gpio.md R120). -/
def dacEnabled (p : Params) (rd : Bytes2) : Bool := pinLevel p.dacEnPin rd == p.dacEnActive

/-- `locked(rdata)`, the verdict of OTP_QUERY (43_device_control.md R130). -/
def otpLocked (rd : Bytes2) : Bool := rd.b0 = 0#8 && rd.b1 = 0#8

/-- The OTP verdict of a caller that has just made an OTP_QUERY: there is one only where the query
ended OK (92_eei_decisions.md D37). -/
def otpVerdict (s : State) : Option Bool := if s.result = .ok then some (otpLocked s.rdata) else none

/-- Whether the DAC-enable line is active: the DAC is enabled exactly then (10_state.md R38). -/
def dacLineActive (p : Params) (d : Device) : Bool := dacEnabled p d.gpio

/-- The units of scheduled delay in a list of events (70_reset_and_hazards.md R240). -/
def delayUnits : List Event → Nat
  | [] => 0
  | .delay n :: es => n + delayUnits es
  | .xfer _ _ :: es => delayUnits es
  | .echo _ :: es => delayUnits es

/-- The lower bound on the duration of a list of events, in milliseconds (70_reset_and_hazards.md
R238, R240). No upper bound is specified. -/
def minDurationMs (es : List Event) : Nat := unitMs * delayUnits es

end Sys2Proof.Machine
end

