-- ==== Sys2Proof/Machine/Ops.lean ====
section
/-! DEFINITION. The shared operations: one call on the transfer port, recording a TransferError (the
block's exception entry; 60_exceptions.md R205 gives it no return), the wrappers `Try` and `Exec1`,
the ends of a MORSE command, and acceptance at the command port. -/

namespace Sys2Proof.Machine

/-! ## The transfer port (20_memory.md R50 to R54) -/

/-- The device's answer to the next call: the caller of the model supplies it, or it is a free draw
(93 U1; log 4). -/
def State.nextAnswer (s : State) : Answer :=
  match s.answers with
  | a :: _ => a
  | [] => Config.freeAnswer s.calls

/-- The two bytes a read of this request brings when it succeeds. -/
def State.readBack (s : State) (bRequest : Byte) : Bytes2 :=
  match s.nextAnswer with
  | .ok _ _ draw => readData s.params bRequest s.dev draw
  | .iofail => s.rdata

/-- The bytes received with an answer of `k` bytes (20_memory.md R50, 00_scope.md R11): none for a
write; for a read that succeeds the data of 20_memory.md R68 and R69, else free draws (R54). -/
def State.received (s : State) (r : Request) (k : Nat) (draw : Bytes2) : List Byte :=
  match r with
  | .ctrlIn b _ _ n => if k = n then (readData s.params b s.dev draw).toList else draw.toList.take k
  | _ => []

/-- The response to a call (20_memory.md R50): without a handle every call fails
(70_reset_and_hazards.md R229), and an answer later than TIMEOUT_MS is `iofail` (R51). -/
def State.reply (s : State) (r : Request) : Reply :=
  match s.handle, s.nextAnswer with
  | true, .ok ms k draw => if ms ≤ timeoutMs then .ok k (s.received r k draw) else .iofail
  | _, _ => .iofail

/-- A call succeeds exactly when the response is `ok(k, data)` with k the expected length
(20_memory.md R50). -/
def Reply.good (r : Request) : Reply → Bool
  | .ok k _ => k = r.expectedLen
  | .iofail => false

/-- Whether the next call, made with this request, succeeds. -/
def State.good (s : State) (r : Request) : Bool := (s.reply r).good r

/-- Append one event to the trace (00_scope.md R14). -/
def State.emit (s : State) (e : Event) : State := { s with trace := s.trace ++ [e] }

/-- Issue one call (20_memory.md R50, R53): one `Xfer` event, and its effect on the device. -/
def State.issue (s : State) (r : Request) : State :=
  { s with
    trace := s.trace ++ [.xfer r (s.reply r)]
    answers := s.answers.tail
    calls := s.calls + 1
    dev := deviceAfter s.params s.calls r (s.good r) s.dev }

/-- `raise TransferError(op, req)` (60_exceptions.md R203), the block's exception entry (R204): one
entry at the end of the accumulator, one more in its count; nothing else, and control returns. -/
def State.raise (s : State) (op : Op) (req : ReqId) : State :=
  { s with
    acc :=
      { entries := s.acc.entries ++ [{ op := op, req := req, msg := Config.freeMsg s.calls }]
        count := s.acc.count + 1 } }

/-- `Try` (41_spi_config.md R100): the call, and the record of a transport error. Whether it
succeeded is `s.good r`. -/
def State.tryCall (s : State) (op : Op) (r : Request) : State :=
  if s.good r then s.issue r else (s.issue r).raise op r.ident

/-- `S.rdata` after a call made with `Exec1`: a read that succeeded brings its data
(41_spi_config.md R100, 20_memory.md R54). -/
def State.rdataAfter (s : State) (r : Request) : Bytes2 :=
  match r, s.good r with
  | .ctrlIn b _ _ _, true => s.readBack b
  | _, _ => s.rdata

/-- `Exec1` (41_spi_config.md R100): `S.busy` is true only inside the step, which is one transfer. -/
def State.exec1 (s : State) (op : Op) (r : Request) : State :=
  { s.tryCall op r with
    result := if s.good r then .ok else .fail
    rdata := s.rdataAfter r
    busy := false }

/-! ## The command port (30_encoding.md R88) -/

/-- Accept a command or refuse it: busy first, then an operand that does not fit. -/
def portCommand (fits : Bool) (s : State) (run : State → State) : Host.Outcome State Fault Refusal :=
  if s.busy then .refused .busy
  else if fits then .next (run s)
  else .refused .operandTooWide

/-- A command of one transfer (41_spi_config.md R100, 30_encoding.md R88). -/
def portExec1 (fits : Bool) (op : Op) (r : Request) (s : State) : Host.Outcome State Fault Refusal :=
  portCommand fits s fun s => s.exec1 op r

/-! ## The sequencer -/

/-- Enter a phase (10_state.md R30). -/
def State.toPhase (s : State) (ph : Phase) : State := { s with phase := ph }

/-- `End(r)` (45_morse.md R171), and with FAIL also `Fail()` (R188). -/
def State.endWith (s : State) (r : Result) : State := { s with result := r, phase := .idle, busy := false }

end Sys2Proof.Machine
end

