-- ==== Sys2Proof/Machine/Control.lean ====
section
/-! DEFINITION. Device control commands: OTP and reset (43_device_control.md). -/

namespace Sys2Proof.Machine

/-- OTP_QUERY (43_device_control.md R130). -/
def execOtpQuery (s : State) : Host.Outcome State Fault Refusal :=
  portExec1 Instr.otpQuery.wf .otpQuery otpQueryRequest s

/-- OTP_LOCK (43_device_control.md R131). -/
def execOtpLock (s : State) : Host.Outcome State Fault Refusal :=
  portExec1 Instr.otpLock.wf .otpLock (otpLockRequest s.params.otpLockWValue) s

/-- RESET (43_device_control.md R132). It resets the device, not the block
(70_reset_and_hazards.md R226). -/
def execReset (s : State) : Host.Outcome State Fault Refusal :=
  portExec1 Instr.reset.wf .reset resetRequest s

end Sys2Proof.Machine
end

