-- ==== Sys2Proof/Machine/Dds.lean ====
section
/-! DEFINITION. The DDS register-write command encoder (44_dds.md). DDS_FREQ and DDS_PHASE have one
table row for each register. None of the commands selects a chip (R144). -/

namespace Sys2Proof.Machine

/-- DDS_FREQ FREQ0 (44_dds.md R140). -/
def execDdsFreq0 (value : Nat) (s : State) : Host.Outcome State Fault Refusal :=
  portExec1 (Instr.ddsFreq0 value).wf .ddsFreq (ddsFreqRequest .freq0 value) s

/-- DDS_FREQ FREQ1 (44_dds.md R140). -/
def execDdsFreq1 (value : Nat) (s : State) : Host.Outcome State Fault Refusal :=
  portExec1 (Instr.ddsFreq1 value).wf .ddsFreq (ddsFreqRequest .freq1 value) s

/-- DDS_PHASE PHASE0 (44_dds.md R141). -/
def execDdsPhase0 (value : Nat) (s : State) : Host.Outcome State Fault Refusal :=
  portExec1 (Instr.ddsPhase0 value).wf .ddsPhase (ddsPhaseRequest .phase0 value) s

/-- DDS_PHASE PHASE1 (44_dds.md R141). -/
def execDdsPhase1 (value : Nat) (s : State) : Host.Outcome State Fault Refusal :=
  portExec1 (Instr.ddsPhase1 value).wf .ddsPhase (ddsPhaseRequest .phase1 value) s

/-- DDS_AMP (44_dds.md R142). -/
def execDdsAmp (value : Nat) (s : State) : Host.Outcome State Fault Refusal :=
  portExec1 (Instr.ddsAmp value).wf .ddsAmp (ddsAmpRequest s.params.ampShift value) s

/-- DDS_SHAPE (44_dds.md R143). -/
def execDdsShape (shape : Shape) (s : State) : Host.Outcome State Fault Refusal :=
  portExec1 (Instr.ddsShape shape).wf .ddsShape (ddsShapeRequest shape) s

end Sys2Proof.Machine
end

