-- ==== Sys2Proof/Machine/Gpio.lean ====
section
/-! DEFINITION. The GPIO bit-mask encoder (42_gpio.md). GPIO_SET has one table row for each pin of
GPIO_MAP (R115). -/

namespace Sys2Proof.Machine

/-- GPIO_GET (42_gpio.md R116). -/
def execGpioGet (s : State) : Host.Outcome State Fault Refusal :=
  portExec1 Instr.gpioGet.wf .gpioGet gpioGetRequest s

/-- GPIO_SET GP_B0_0 (42_gpio.md R117). -/
def execGpioSetB0b0 (level : Nat) (s : State) : Host.Outcome State Fault Refusal :=
  portExec1 (Instr.gpioSetB0b0 level).wf .gpioSet (gpioSetRequest .b0_0 level) s

/-- GPIO_SET GP_B0_2 (42_gpio.md R117). -/
def execGpioSetB0b2 (level : Nat) (s : State) : Host.Outcome State Fault Refusal :=
  portExec1 (Instr.gpioSetB0b2 level).wf .gpioSet (gpioSetRequest .b0_2 level) s

/-- GPIO_SET GP_B1_5 (42_gpio.md R117). -/
def execGpioSetB1b5 (level : Nat) (s : State) : Host.Outcome State Fault Refusal :=
  portExec1 (Instr.gpioSetB1b5 level).wf .gpioSet (gpioSetRequest .b1_5 level) s

/-- GPIO_SET GP_B1_6 (42_gpio.md R117). -/
def execGpioSetB1b6 (level : Nat) (s : State) : Host.Outcome State Fault Refusal :=
  portExec1 (Instr.gpioSetB1b6 level).wf .gpioSet (gpioSetRequest .b1_6 level) s

/-- GPIO_SET GP_B1_7 (42_gpio.md R117). -/
def execGpioSetB1b7 (level : Nat) (s : State) : Host.Outcome State Fault Refusal :=
  portExec1 (Instr.gpioSetB1b7 level).wf .gpioSet (gpioSetRequest .b1_7 level) s

end Sys2Proof.Machine
end

