-- ==== Sys2Proof/Machine/Morse.lean ====
section
/-! DEFINITION. The Morse code dispatcher (45_morse.md): the MORSE command, the sequencer's
micro-operations, and the sequencer's own step over `S.phase`. -/

namespace Sys2Proof.Machine

/-! ## MORSE -/

/-- Acceptance of MORSE (45_morse.md R170): the message is latched and the sequencer set going. -/
def State.acceptMorse (s : State) (text : List Byte) : State :=
  { s with
    busy := true
    result := .none
    txt := text
    pos := 0
    lastWS := true
    pendGap := false
    code := []
    sym := 0
    phase := .precheck }

/-- MORSE (45_morse.md R170). The rest of its effect is the sequencer's, one step at a time. -/
def execMorse (text : List Byte) (s : State) : Host.Outcome State Fault Refusal :=
  portCommand (Instr.morse text).wf s fun s => s.acceptMorse text

/-! ## The state changes of the micro-operations -/

/-- `c = S.txt[S.pos]`, if the message has not ended (45_morse.md part 3). -/
def State.current (s : State) : Option Byte := s.txt[s.pos]?

/-- The class of the current byte (45_morse.md R164). -/
def State.currentClass (s : State) : Option ByteClass := s.current.map (classOf s.params)

/-- PRECHECK (45_morse.md R171). The word read is not kept in `S.rdata`. -/
def State.runPrecheck (s : State) : State :=
  let t := s.tryCall .gpioGet gpioGetRequest
  if s.good gpioGetRequest then
    if genRunning s.params (s.readBack 0x20#8) then
      if dacEnabled s.params (s.readBack 0x20#8) then t.endWith .precondDacOn else t.toPhase .fetch
    else t.endWith .precondGenOff
  else t.endWith .fail

/-- Consume the current byte without an event (45_morse.md R177, R178). -/
def State.skipByte (s : State) : State := { s with pos := s.pos + 1 }

/-- CHAR_GAP (45_morse.md R180). -/
def State.runCharGap (s : State) : State :=
  { s.emit (.delay charGapUnits) with pendGap := false, phase := .fetch }

/-- WORD_GAP (45_morse.md R181): the echo first, then the gap; an owed gap is dropped. -/
def State.runWordGap (s : State) : State :=
  { (s.emit (.echo 0x20#8)).emit (.delay wordGapUnits) with
    pendGap := false
    lastWS := true
    pos := s.pos + 1
    phase := .fetch }

/-- CHAR_START (45_morse.md R183) of byte `c` with code `code`. The echo is not folded. -/
def State.runCharStart (s : State) (c : Byte) (code : List Symbol) : State :=
  { s.emit (.echo c) with code := code, sym := 0, lastWS := false, phase := .symOn }

/-- One DAC-enable write (45_morse.md R184, R186): on to the next phase, or `Fail()` (R188). -/
def State.dacWrite (s : State) (r : Request) (next : Phase) : State :=
  if s.good r then (s.tryCall .gpioSet r).toPhase next else (s.tryCall .gpioSet r).endWith .fail

/-- SYM_ON (45_morse.md R184). -/
def State.runSymOn (s : State) : State := s.dacWrite (dacOnRequest s.params) .symHold

/-- SYM_HOLD (45_morse.md R185) of symbol `x`. -/
def State.runSymHold (s : State) (x : Symbol) : State := (s.emit (.delay (holdUnits x))).toPhase .symOff

/-- SYM_OFF (45_morse.md R186). -/
def State.runSymOff (s : State) : State := s.dacWrite (dacOffRequest s.params) .symGap

/-- SYM_GAP (45_morse.md R187). -/
def State.runSymGap (s : State) : State :=
  if s.sym + 1 < s.code.length then
    { s.emit (.delay intraGapUnits) with sym := s.sym + 1, phase := .symOn }
  else
    { s.emit (.delay intraGapUnits) with
      sym := s.sym + 1
      pendGap := true
      pos := s.pos + 1
      phase := .fetch }

/-- One whole symbol from SYM_ON (45_morse.md R189): SYM_ON, SYM_HOLD, SYM_OFF, SYM_GAP, stopping at
the first DAC-enable write that fails (R188). -/
def State.runSymbol (s : State) (x : Symbol) : State :=
  if s.good (dacOnRequest s.params) then
    let held := (s.runSymOn).runSymHold x
    if held.good (dacOffRequest held.params) then held.runSymOff.runSymGap else held.runSymOff
  else s.runSymOn

/-! ## The micro-operations -/

/-- A micro-operation, run where its rule says it runs. -/
def whenDue (due : Bool) (t : State) : Host.Outcome State Fault Refusal :=
  if due then .next t else .refused .microOpNotDue

/-- SEQ_PRECHECK (45_morse.md R171). -/
def execSeqPrecheck (s : State) : Host.Outcome State Fault Refusal :=
  whenDue (s.phase = .precheck) s.runPrecheck

/-- SEQ_END (45_morse.md R176). -/
def execSeqEnd (s : State) : Host.Outcome State Fault Refusal :=
  whenDue (s.phase = .fetch && s.pos = s.txt.length && !s.pendGap) (s.endWith .ok)

/-- SEQ_SKIP_WS (45_morse.md R177). -/
def execSeqSkipWs (s : State) : Host.Outcome State Fault Refusal :=
  whenDue (s.phase = .fetch && s.currentClass = some .ws && s.lastWS) s.skipByte

/-- SEQ_SKIP_UNMAPPED (45_morse.md R178). -/
def execSeqSkipUnmapped (s : State) : Host.Outcome State Fault Refusal :=
  whenDue (s.phase = .fetch && s.currentClass = some .unmapped) s.skipByte

/-- SEQ_CHAR_GAP (45_morse.md R180). -/
def execSeqCharGap (s : State) : Host.Outcome State Fault Refusal :=
  whenDue (s.phase = .charGap) s.runCharGap

/-- SEQ_WORD_GAP (45_morse.md R181). -/
def execSeqWordGap (s : State) : Host.Outcome State Fault Refusal :=
  whenDue (s.phase = .wordGap) s.runWordGap

/-- SEQ_CHAR_START (45_morse.md R183). A CHAR_START phase at no mapped byte is no state of a run
(log 18). -/
def execSeqCharStart (s : State) : Host.Outcome State Fault Refusal :=
  if s.phase = .charStart then
    match s.current.bind fun c => (tableCode s.params (fold c)).map fun code => (c, code) with
    | some (c, code) => .next (s.runCharStart c code)
    | none => .fault .noRule
  else .refused .microOpNotDue

/-- SEQ_DOT (45_morse.md R189): a whole DOT, from SYM_ON (log 17). -/
def execSeqDot (s : State) : Host.Outcome State Fault Refusal :=
  whenDue (s.phase = .symOn && s.code[s.sym]? = some .dot) (s.runSymbol .dot)

/-- SEQ_DASH (45_morse.md R189): a whole DASH, from SYM_ON (log 17). -/
def execSeqDash (s : State) : Host.Outcome State Fault Refusal :=
  whenDue (s.phase = .symOn && s.code[s.sym]? = some .dash) (s.runSymbol .dash)

/-! ## The sequencer's step -/

/-- Dispatch in FETCH (45_morse.md R176 to R179). -/
def fetchStep (s : State) : Host.Outcome State Fault Refusal :=
  match s.currentClass with
  | none =>
    if s.pos = s.txt.length then
      if s.pendGap then .next (s.toPhase .charGap) else execSeqEnd s
    else .fault .noRule
  | some .ws => if s.lastWS then execSeqSkipWs s else .next (s.toPhase .wordGap)
  | some .mapped => if s.pendGap then .next (s.toPhase .charGap) else .next (s.toPhase .charStart)
  | some .unmapped => execSeqSkipUnmapped s

/-- One step of the block on its own (45_morse.md part 3). In IDLE it waits for a command
(70_reset_and_hazards.md R227). -/
def sequencerStep (s : State) : Host.Outcome State Fault Refusal :=
  match s.phase with
  | .idle => .next s
  | .precheck => execSeqPrecheck s
  | .fetch => fetchStep s
  | .charGap => execSeqCharGap s
  | .wordGap => execSeqWordGap s
  | .charStart => execSeqCharStart s
  | .symOn => .next s.runSymOn
  | .symHold =>
    match s.code[s.sym]? with
    | some x => .next (s.runSymHold x)
    | none => .fault .noRule
  | .symOff => .next s.runSymOff
  | .symGap => .next s.runSymGap

/-! ## The big-step procedure (45_morse.md R190) -/

/-- The symbols of one character (45_morse.md R190): the state after them and whether every write
succeeded. -/
def morseSymbols : List Symbol → State → State × Bool
  | [], s => (s, true)
  | x :: xs, s =>
    let on := s.tryCall .gpioSet (dacOnRequest s.params)
    if s.good (dacOnRequest s.params) then
      let held := on.emit (.delay (holdUnits x))
      let off := held.tryCall .gpioSet (dacOffRequest s.params)
      if held.good (dacOffRequest s.params) then morseSymbols xs (off.emit (.delay intraGapUnits))
      else (off, false)
    else (on, false)

/-- The loop over the text (45_morse.md R190), with `lastWS` and `pend` as its variables. -/
def morseText : List Byte → Bool → Bool → State → State
  | [], _, pend, s => (if pend then s.emit (.delay charGapUnits) else s).endWith .ok
  | c :: cs, lastWS, pend, s =>
    if isWs c then
      if lastWS then morseText cs lastWS pend s
      else morseText cs true false ((s.emit (.echo 0x20#8)).emit (.delay wordGapUnits))
    else
      match tableCode s.params (fold c) with
      | some code =>
        let r := morseSymbols code ((if pend then s.emit (.delay charGapUnits) else s).emit (.echo c))
        if r.2 then morseText cs false true r.1 else r.1.endWith .fail
      | none => morseText cs lastWS pend s

/-- `MorseRun(text)` (45_morse.md R190). -/
def morseRun (text : List Byte) (s : State) : State :=
  let t := s.tryCall .gpioGet gpioGetRequest
  if s.good gpioGetRequest then
    if genRunning s.params (s.readBack 0x20#8) then
      if dacEnabled s.params (s.readBack 0x20#8) then t.endWith .precondDacOn
      else morseText text true false t
    else t.endWith .precondGenOff
  else t.endWith .fail

end Sys2Proof.Machine
end

