-- ==== Sys2Proof/Machine/Spi.lean ====
section
/-! DEFINITION. SPI channel configuration commands (41_spi_config.md). -/

namespace Sys2Proof.Machine

/-- SPI_MODE (41_spi_config.md R101). -/
def execSpiMode (ch cpol cpha : Nat) (s : State) : Host.Outcome State Fault Refusal :=
  portExec1 (Instr.spiMode ch cpol cpha).wf .spiMode (spiModeRequest ch cpol cpha) s

/-- CS_SELECT (41_spi_config.md R102). -/
def execCsSelect (ch : Nat) (s : State) : Host.Outcome State Fault Refusal :=
  portExec1 (Instr.csSelect ch).wf .csSelect (csSelectRequest ch) s

/-- CS_DISABLE (41_spi_config.md R103). -/
def execCsDisable (ch : Nat) (s : State) : Host.Outcome State Fault Refusal :=
  portExec1 (Instr.csDisable ch).wf .csDisable (csDisableRequest ch) s

/-- DELAY_DISABLE (41_spi_config.md R104). -/
def execDelayDisable (ch : Nat) (s : State) : Host.Outcome State Fault Refusal :=
  portExec1 (Instr.delayDisable ch).wf .delayDisable (delayDisableRequest ch) s

end Sys2Proof.Machine
end

