-- ==== Sys2Proof/Machine/Dispatch.lean ====
section
/-! DEFINITION. The meaning of every instruction: one arm for each constructor of `Instr`. -/

namespace Sys2Proof.Machine

def exec (i : Instr) (s : State) : Host.Outcome State Fault Refusal :=
  match i with
  | .spiMode ch cpol cpha => Sys2Proof.Machine.execSpiMode ch cpol cpha s
  | .csSelect ch => Sys2Proof.Machine.execCsSelect ch s
  | .csDisable ch => Sys2Proof.Machine.execCsDisable ch s
  | .delayDisable ch => Sys2Proof.Machine.execDelayDisable ch s
  | .gpioGet => Sys2Proof.Machine.execGpioGet s
  | .gpioSetB0b0 level => Sys2Proof.Machine.execGpioSetB0b0 level s
  | .gpioSetB0b2 level => Sys2Proof.Machine.execGpioSetB0b2 level s
  | .gpioSetB1b5 level => Sys2Proof.Machine.execGpioSetB1b5 level s
  | .gpioSetB1b6 level => Sys2Proof.Machine.execGpioSetB1b6 level s
  | .gpioSetB1b7 level => Sys2Proof.Machine.execGpioSetB1b7 level s
  | .otpQuery => Sys2Proof.Machine.execOtpQuery s
  | .otpLock => Sys2Proof.Machine.execOtpLock s
  | .reset => Sys2Proof.Machine.execReset s
  | .ddsFreq0 value => Sys2Proof.Machine.execDdsFreq0 value s
  | .ddsFreq1 value => Sys2Proof.Machine.execDdsFreq1 value s
  | .ddsPhase0 value => Sys2Proof.Machine.execDdsPhase0 value s
  | .ddsPhase1 value => Sys2Proof.Machine.execDdsPhase1 value s
  | .ddsAmp value => Sys2Proof.Machine.execDdsAmp value s
  | .ddsShape shape => Sys2Proof.Machine.execDdsShape shape s
  | .morse text => Sys2Proof.Machine.execMorse text s
  | .seqPrecheck => Sys2Proof.Machine.execSeqPrecheck s
  | .seqEnd => Sys2Proof.Machine.execSeqEnd s
  | .seqSkipWs => Sys2Proof.Machine.execSeqSkipWs s
  | .seqSkipUnmapped => Sys2Proof.Machine.execSeqSkipUnmapped s
  | .seqCharGap => Sys2Proof.Machine.execSeqCharGap s
  | .seqWordGap => Sys2Proof.Machine.execSeqWordGap s
  | .seqCharStart => Sys2Proof.Machine.execSeqCharStart s
  | .seqDot => Sys2Proof.Machine.execSeqDot s
  | .seqDash => Sys2Proof.Machine.execSeqDash s

end Sys2Proof.Machine
end

