-- ==== Sys2Proof/Machine/Port.lean ====
section
/-! DEFINITION. The command port: the typed record and its pseudo-commands (30_encoding.md R84, R86,
R88), the assembler syntax (R85), and what the block takes from the port. -/

namespace Sys2Proof.Machine

/-! ## The typed record (30_encoding.md R84, R86, R88) -/

/-- GPIO_SET of one pin: the row of that pin. -/
def gpioSetInstr (p : Pin) (level : Nat) : Instr :=
  match p with
  | .b0_0 => .gpioSetB0b0 level
  | .b0_2 => .gpioSetB0b2 level
  | .b1_5 => .gpioSetB1b5 level
  | .b1_6 => .gpioSetB1b6 level
  | .b1_7 => .gpioSetB1b7 level

/-- DDS_FREQ with any register tag (30_encoding.md R88). -/
def ddsFreqInstr (reg : RegTag) (value : Nat) : Except Refusal Instr :=
  match reg with
  | .freq0 => .ok (.ddsFreq0 value)
  | .freq1 => .ok (.ddsFreq1 value)
  | .phase0 => .error .wrongTagKind
  | .phase1 => .error .wrongTagKind

/-- DDS_PHASE with any register tag (30_encoding.md R88). -/
def ddsPhaseInstr (reg : RegTag) (value : Nat) : Except Refusal Instr :=
  match reg with
  | .phase0 => .ok (.ddsPhase0 value)
  | .phase1 => .ok (.ddsPhase1 value)
  | .freq0 => .error .wrongTagKind
  | .freq1 => .error .wrongTagKind

/-- The instruction a record names, or the port's refusal (30_encoding.md R84, R86, R88). Operand
widths are checked where the instruction is accepted. -/
def commandInstr (p : Params) (c : Command) : Except Refusal Instr :=
  match c with
  | .spiMode ch cpol cpha => .ok (.spiMode ch cpol cpha)
  | .csSelect ch => .ok (.csSelect ch)
  | .csDisable ch => .ok (.csDisable ch)
  | .delayDisable ch => .ok (.delayDisable ch)
  | .gpioGet => .ok .gpioGet
  | .gpioSet byte bit level =>
    match pinAt byte bit with
    | some pin => .ok (gpioSetInstr pin level)
    | none => .error .pinNotMapped
  | .otpQuery => .ok .otpQuery
  | .otpLock => .ok .otpLock
  | .reset => .ok .reset
  | .ddsFreq reg value => ddsFreqInstr reg value
  | .ddsPhase reg value => ddsPhaseInstr reg value
  | .ddsAmp value => .ok (.ddsAmp value)
  | .ddsShape shape => .ok (.ddsShape shape)
  | .morse text => .ok (.morse text)
  | .dacOn => .ok (gpioSetInstr p.dacEnPin (dacOnLevel p))
  | .dacOff => .ok (gpioSetInstr p.dacEnPin (dacOffLevel p))
  | .setFrequency value tag => ddsFreqInstr tag value

/-! ## Assembler text (30_encoding.md R85; log 29) -/

/-- The bytes of an ASCII word. -/
def ascii (s : String) : List Byte := s.toList.map fun c => BitVec.ofNat 8 c.toNat

/-- A letter, a digit or an underscore: the bytes of a name or a number. -/
def isWordByte (b : Byte) : Bool :=
  decide (0x30 ≤ b.toNat ∧ b.toNat ≤ 0x39) || decide (0x41 ≤ b.toNat ∧ b.toNat ≤ 0x5A)
    || decide (0x61 ≤ b.toNat ∧ b.toNat ≤ 0x7A) || b = 0x5F#8

/-- The value of a hexadecimal digit. -/
def hexDigit (b : Byte) : Option Nat :=
  if 0x30 ≤ b.toNat ∧ b.toNat ≤ 0x39 then some (b.toNat - 0x30)
  else if 0x41 ≤ b.toNat ∧ b.toNat ≤ 0x46 then some (b.toNat - 0x41 + 10)
  else if 0x61 ≤ b.toNat ∧ b.toNat ≤ 0x66 then some (b.toNat - 0x61 + 10)
  else none

/-- The value of a digit string in a base, most significant digit first. -/
def digits (base : Nat) : Nat → List Byte → Option Nat
  | n, [] => some n
  | n, b :: bs =>
    match hexDigit b with
    | some d => if d < base then digits base (n * base + d) bs else none
    | none => none

/-- A decimal or 0x-hex number. -/
def number (bs : List Byte) : Option Nat :=
  match bs with
  | [] => none
  | 0x30#8 :: 0x78#8 :: [] => none
  | 0x30#8 :: 0x78#8 :: hex => digits 16 0 hex
  | decimal => digits 10 0 decimal

/-- A pin name `GP_B<byte>_<bit>`: the position it names, in GPIO_MAP or not (42_gpio.md R115). -/
def pinName (bs : List Byte) : Option (Nat × Nat) :=
  match bs with
  | [0x47#8, 0x50#8, 0x5F#8, 0x42#8, byte, 0x5F#8, bit] =>
    match digits 10 0 [byte], digits 10 0 [bit] with
    | some b, some k => some (b, k)
    | _, _ => none
  | _ => none

/-- A register tag by its name. -/
def tagName (bs : List Byte) : Option RegTag :=
  if bs = ascii "FREQ0" then some .freq0
  else if bs = ascii "FREQ1" then some .freq1
  else if bs = ascii "PHASE0" then some .phase0
  else if bs = ascii "PHASE1" then some .phase1
  else none

/-- A waveform shape by its name. -/
def shapeName (bs : List Byte) : Option Shape :=
  if bs = ascii "SINE" then some .sine
  else if bs = ascii "TRIANGLE" then some .triangle
  else none

/-- The inside of a quoted string and what follows its closing quote, escapes resolved:
`\n`, `\"`, `\\` and `\xHH` (30_encoding.md R85). -/
def quoted : List Byte → Option (List Byte)
  | [] => none
  | 0x22#8 :: rest => if rest.all (fun b => b = 0x20#8) then some [] else none
  | 0x5C#8 :: 0x6E#8 :: rest => (quoted rest).map fun t => 0x0A#8 :: t
  | 0x5C#8 :: 0x22#8 :: rest => (quoted rest).map fun t => 0x22#8 :: t
  | 0x5C#8 :: 0x5C#8 :: rest => (quoted rest).map fun t => 0x5C#8 :: t
  | 0x5C#8 :: 0x78#8 :: h :: l :: rest =>
    match hexDigit h, hexDigit l with
    | some x, some y => (quoted rest).map fun t => BitVec.ofNat 8 (16 * x + y) :: t
    | _, _ => none
  | 0x5C#8 :: _ => none
  | b :: rest => (quoted rest).map fun t => b :: t

/-- The text without spaces at its ends. -/
def trimSpaces (bs : List Byte) : List Byte :=
  ((bs.dropWhile (· = 0x20#8)).reverse.dropWhile (· = 0x20#8)).reverse

/-- The text cut at its commas. -/
def splitCommas (bs : List Byte) : List (List Byte) :=
  bs.foldr
    (fun b parts =>
      if b = 0x2C#8 then [] :: parts
      else
        match parts with
        | p :: ps => (b :: p) :: ps
        | [] => [[b]])
    [[]]

/-- The operands of a command, trimmed: none for an empty text. -/
def operandList (bs : List Byte) : List (List Byte) :=
  if trimSpaces bs = [] then [] else (splitCommas bs).map trimSpaces

/-- A command from its mnemonic and its operands. -/
def commandOf (mnemonic : List Byte) (ops : List (List Byte)) : Option Command :=
  if mnemonic = ascii "SPI_MODE" then
    match ops with
    | [a, b, c] =>
      match number a, number b, number c with
      | some ch, some cpol, some cpha => some (.spiMode ch cpol cpha)
      | _, _, _ => none
    | _ => none
  else if mnemonic = ascii "CS_SELECT" then
    match ops with
    | [a] => (number a).map .csSelect
    | _ => none
  else if mnemonic = ascii "CS_DISABLE" then
    match ops with
    | [a] => (number a).map .csDisable
    | _ => none
  else if mnemonic = ascii "DELAY_DISABLE" then
    match ops with
    | [a] => (number a).map .delayDisable
    | _ => none
  else if mnemonic = ascii "GPIO_GET" then if ops = [] then some .gpioGet else none
  else if mnemonic = ascii "GPIO_SET" then
    match ops with
    | [a, b] =>
      match pinName a, number b with
      | some (byte, bit), some level => some (.gpioSet byte bit level)
      | _, _ => none
    | _ => none
  else if mnemonic = ascii "OTP_QUERY" then if ops = [] then some .otpQuery else none
  else if mnemonic = ascii "OTP_LOCK" then if ops = [] then some .otpLock else none
  else if mnemonic = ascii "RESET" then if ops = [] then some .reset else none
  else if mnemonic = ascii "DDS_FREQ" then
    match ops with
    | [a, b] =>
      match tagName a, number b with
      | some reg, some value => some (.ddsFreq reg value)
      | _, _ => none
    | _ => none
  else if mnemonic = ascii "DDS_PHASE" then
    match ops with
    | [a, b] =>
      match tagName a, number b with
      | some reg, some value => some (.ddsPhase reg value)
      | _, _ => none
    | _ => none
  else if mnemonic = ascii "DDS_AMP" then
    match ops with
    | [a] => (number a).map .ddsAmp
    | _ => none
  else if mnemonic = ascii "DDS_SHAPE" then
    match ops with
    | [a] => (shapeName a).map .ddsShape
    | _ => none
  else if mnemonic = ascii "DAC_ON" then if ops = [] then some .dacOn else none
  else if mnemonic = ascii "DAC_OFF" then if ops = [] then some .dacOff else none
  else none

/-- `setFrequency(v, tag)`, the operands and the closing bracket (30_encoding.md R86). -/
def setFrequencyOf (rest : List Byte) : Option Command :=
  match rest with
  | 0x28#8 :: inside =>
    match (trimSpaces inside).reverse with
    | 0x29#8 :: body =>
      match operandList body.reverse with
      | [a, b] =>
        match number a, tagName b with
        | some value, some tag => some (.setFrequency value tag)
        | _, _ => none
      | _ => none
    | _ => none
  | _ => none

/-- A line of assembler text (30_encoding.md R85): the mnemonic, then the operands. -/
def parseLine (text : List Byte) : Option Command :=
  let line := text.dropWhile (· = 0x20#8)
  let mnemonic := line.takeWhile isWordByte
  let rest := (line.dropWhile isWordByte).dropWhile (· = 0x20#8)
  if mnemonic = ascii "MORSE" then
    match rest with
    | 0x22#8 :: body => (quoted body).map .morse
    | _ => none
  else if mnemonic = ascii "setFrequency" then setFrequencyOf rest
  else commandOf mnemonic (operandList rest)

/-! ## What the block takes from the port -/

/-- The instruction a presented item names, or the port's refusal. -/
def portInstr (p : Params) (item : PortItem) : Except Refusal Instr :=
  match item with
  | .record c => commandInstr p c
  | .line text =>
    match parseLine text with
    | some c => commandInstr p c
    | none => .error .badSyntax
  | .image bytes =>
    match decode p.ampShift bytes with
    | .ok i => .ok i
    | .error why => .error (.notBlockOutput why)

/-- Whether a presentation is made now: a caller that waits for the result port presents only when
no MORSE command is active (10_state.md R31, 70_reset_and_hazards.md R242). -/
def presentedNow (s : State) (q : Presentation) : Bool := s.phase = .idle || !q.waits

/-! ## Boot orders (70_reset_and_hazards.md R230) -/

/-- The commands a caller issues before DDS_FREQ and DDS_PHASE (70_reset_and_hazards.md R230). -/
def ddsBoot (p : Params) (shape : Shape) : List Command :=
  let ch := (if p.ddsChannel = .ch0 then 0 else 1)
  [.spiMode ch (levelOf p.ddsSpiCpol) (levelOf p.ddsSpiCpha), .delayDisable ch, .csSelect ch,
    .ddsShape shape]

/-- The commands a caller issues for an amplitude (70_reset_and_hazards.md R230). -/
def ampBoot (p : Params) (cpol cpha value : Nat) : List Command :=
  let ch := (if p.ampChannel = .ch0 then 0 else 1)
  [.spiMode ch cpol cpha, .delayDisable ch, .csSelect ch, .ddsAmp value]

end Sys2Proof.Machine
end

