-- ==== Sys2Proof/Machine/Step.lean ====
section
/-! DEFINITION. One step of the block: take what is presented at the command port now, or go on with
the MORSE command that is running, or wait. -/

namespace Sys2Proof.Machine

/-- One step. A command is taken from the port when one is presented now; its refusal is the step's
(30_encoding.md R88, 60_exceptions.md R202). Otherwise the sequencer goes on (45_morse.md part 3),
or the block waits in IDLE (70_reset_and_hazards.md R227). -/
def step (s : State) : Host.Outcome State Fault Refusal :=
  match s.port with
  | [] => sequencerStep s
  | q :: rest =>
    if presentedNow s q then
      match portInstr s.params q.item with
      | .ok i => exec i { s with port := rest }
      | .error r => .refused r
    else sequencerStep s

/-- `s` with the instruction that an image, given as one number, names presented next: the very next
step takes it from the port (log 6). -/
def State.withFetchWord (s : State) (nbits w : Nat) : State :=
  { s with port := { item := .image (tableBytes nbits w), waits := false } :: s.port }

end Sys2Proof.Machine
end

