-- ==== Sys2Proof/Safety.lean ====
section
/-! DEFINITION. What counts as a safe run, in the terms the statements use: the invariant of the
sequencer's registers, the requests the block never issues, and the shape of a one-transfer step. -/

namespace Sys2Proof.Machine

/-! ## The invariant -/

/-- The phases in which a symbol is being signalled (10_state.md R30). -/
def symbolPhase : Phase → Bool
  | .symOn => true
  | .symHold => true
  | .symOff => true
  | .symGap => true
  | .idle => false
  | .precheck => false
  | .fetch => false
  | .charGap => false
  | .wordGap => false
  | .charStart => false

/-- The invariant of every reachable state: what 10_state.md R21 to R30 and 45_morse.md say of the
registers together. -/
structure Inv (s : State) : Prop where
  /-- 10_state.md R22. -/
  count : s.acc.count = s.acc.entries.length
  /-- 10_state.md R30, 45_morse.md R170: busy exactly while a MORSE command is active. -/
  busy : s.busy = true ↔ s.phase ≠ .idle
  /-- 60_exceptions.md R200: NONE while a MORSE command is running. -/
  running : s.busy = true → s.result = .none
  /-- 10_state.md R24. -/
  pos : s.pos ≤ s.txt.length
  /-- 45_morse.md R177. -/
  gap : s.lastWS = true → s.pendGap = false
  /-- 45_morse.md R170. -/
  precheck : s.phase = .precheck →
    s.pos = 0 ∧ s.lastWS = true ∧ s.pendGap = false ∧ s.code = [] ∧ s.sym = 0
  /-- 45_morse.md R180. -/
  charGap : s.phase = .charGap → s.pendGap = true
  /-- 45_morse.md R179, R181. -/
  wordGap : s.phase = .wordGap → s.lastWS = false ∧ s.currentClass = some .ws
  /-- 45_morse.md R179, R183. -/
  charStart : s.phase = .charStart → s.pendGap = false ∧ s.currentClass = some .mapped
  /-- 10_state.md R27, 45_morse.md R183. -/
  symbol : symbolPhase s.phase = true →
    s.pendGap = false ∧ s.lastWS = false ∧ s.sym < s.code.length ∧
      ∃ c, s.current = some c ∧ isWs c = false ∧ tableCode s.params (fold c) = some s.code

/-! ## One transfer -/

/-- The mnemonic a command records (60_exceptions.md R201). -/
def instrOp : Instr → Option Op
  | .spiMode _ _ _ => some .spiMode
  | .csSelect _ => some .csSelect
  | .csDisable _ => some .csDisable
  | .delayDisable _ => some .delayDisable
  | .gpioGet => some .gpioGet
  | .gpioSetB0b0 _ => some .gpioSet
  | .gpioSetB0b2 _ => some .gpioSet
  | .gpioSetB1b5 _ => some .gpioSet
  | .gpioSetB1b6 _ => some .gpioSet
  | .gpioSetB1b7 _ => some .gpioSet
  | .otpQuery => some .otpQuery
  | .otpLock => some .otpLock
  | .reset => some .reset
  | .ddsFreq0 _ => some .ddsFreq
  | .ddsFreq1 _ => some .ddsFreq
  | .ddsPhase0 _ => some .ddsPhase
  | .ddsPhase1 _ => some .ddsPhase
  | .ddsAmp _ => some .ddsAmp
  | .ddsShape _ => some .ddsShape
  | .morse _ => some .morse
  | .seqPrecheck => none
  | .seqEnd => none
  | .seqSkipWs => none
  | .seqSkipUnmapped => none
  | .seqCharGap => none
  | .seqWordGap => none
  | .seqCharStart => none
  | .seqDot => none
  | .seqDash => none

/-- `t` is `s` after a one-transfer command `op` with request `r` (41_spi_config.md R100): one `Xfer`
event, the result by whether the call succeeded, on a transport error one more accumulator entry
with its mnemonic and request identifier, `S.rdata` as given, the device as `t` has it, and nothing
else changed: no sequencer register, no parameter, nothing at the port. -/
def ranOneTransfer (s t : State) (op : Op) (r : Request) (rdata : Bytes2) : Prop :=
  t = { s with
        busy := false
        result := if s.good r then .ok else .fail
        rdata := rdata
        acc := t.acc
        dev := t.dev
        trace := s.trace ++ [.xfer r (s.reply r)]
        answers := s.answers.tail
        calls := s.calls + 1 } ∧
  (s.good r = true → t.acc = s.acc) ∧
  (s.good r = false → ∃ msg,
    t.acc = { entries := s.acc.entries ++ [{ op := op, req := r.ident, msg := msg }],
              count := s.acc.count + 1 })

/-- Run one command and require that it ended OK. -/
def runCommand (c : Command) (s : State) : Option State :=
  match commandInstr s.params c with
  | .ok i =>
    match exec i s with
    | .next t => if t.result = .ok then some t else none
    | .fault _ => none
    | .refused _ => none
  | .error _ => none

/-- Run commands one after another while each ends OK (70_reset_and_hazards.md R230: "Each step must
succeed"). -/
def runCommands : List Command → State → Option State
  | [], s => some s
  | c :: cs, s => (runCommand c s).bind (runCommands cs)

/-- The DDS register file after one of the commands of the last step of the boot order
(70_reset_and_hazards.md R230): the addressed register holds the whole value. -/
def ddsWrite (c : Command) (d : Dds) : Dds :=
  match c with
  | .ddsFreq .freq0 v => { d with freq0 := BitVec.ofNat 28 v }
  | .ddsFreq .freq1 v => { d with freq1 := BitVec.ofNat 28 v }
  | .ddsPhase .phase0 v => { d with phase0 := BitVec.ofNat 12 v }
  | .ddsPhase .phase1 v => { d with phase1 := BitVec.ofNat 12 v }
  | _ => d

/-! ## The lanes of the GPIO word -/

/-- Every one of the sixteen lanes but the pin's own is as it was (42_gpio.md R119). -/
def onlyLane (pin : Pin) (old new : Bytes2) : Prop :=
  (∀ k, (pin.byteIndex ≠ 0 ∨ k ≠ pin.bitIndex) → new.b0.getLsbD k = old.b0.getLsbD k) ∧
  (∀ k, (pin.byteIndex ≠ 1 ∨ k ≠ pin.bitIndex) → new.b1.getLsbD k = old.b1.getLsbD k)

/-! ## The requests the block issues -/

/-- The requests of a list of events, in order. -/
def requestsOf : List Event → List Request
  | [] => []
  | .xfer r _ :: es => r :: requestsOf es
  | .delay _ :: es => requestsOf es
  | .echo _ :: es => requestsOf es

/-- The bytes a list of events echoes, in order. -/
def echoesOf : List Event → List Byte
  | [] => []
  | .echo b :: es => b :: echoesOf es
  | .delay _ :: es => echoesOf es
  | .xfer _ _ :: es => echoesOf es

/-- The number of delays in a list of events. -/
def delaysOf : List Event → Nat
  | [] => 0
  | .delay _ :: es => 1 + delaysOf es
  | .echo _ :: es => delaysOf es
  | .xfer _ _ :: es => delaysOf es

/-- A GPIO_SET payload with one mask bit and no data bit outside the mask (30_encoding.md R97). -/
def oneLanePayload (payload : List Byte) : Prop :=
  ∃ d0 d1 m0 m1 : Byte, payload = [d0, d1, m0, m1] ∧
    ((m0 = 0#8 ∧ ∃ k, k < 8 ∧ m1 = 1#8 <<< k) ∨ (m1 = 0#8 ∧ ∃ k, k < 8 ∧ m0 = 1#8 <<< k)) ∧
    d0 &&& ~~~m0 = 0#8 ∧ d1 &&& ~~~m1 = 0#8

/-- A bulk payload of the DDS commands (30_encoding.md R97): two FREQ words with one frequency tag,
or one word that is a PHASE word with `w[12]` = 0, a SHAPE word, or an AMP word with top nibble 0. -/
def ddsPayload (payload : List Byte) : Prop :=
  (∃ w0 w1 : Half, payload = be16 w0 ++ be16 w1 ∧
    (w0.extractLsb' 14 2 = 0b01#2 ∨ w0.extractLsb' 14 2 = 0b10#2) ∧
    w1.extractLsb' 14 2 = w0.extractLsb' 14 2) ∨
  (∃ w : Half, payload = be16 w ∧
    (w.extractLsb' 12 4 = 0b1100#4 ∨ w.extractLsb' 12 4 = 0b1110#4 ∨
      w = 0x2200#16 ∨ w = 0x2202#16 ∨ w.extractLsb' 12 4 = 0#4))

/-- A request outside the never-issued encodings of 30_encoding.md R97. -/
def Issuable : Request → Prop
  | .ctrlOut b _ _ payload =>
    (b = 0x10#8 ∧ payload = []) ∨
    (b = 0x21#8 ∧ oneLanePayload payload) ∨
    (b = 0x25#8 ∧ ∃ ch flag, payload = [ch, flag] ∧ (flag = 0x02#8 ∨ flag = 0x00#8)) ∨
    (b = 0x31#8 ∧ ∃ ch w : Byte, payload = [ch, w] ∧ w &&& 0xCF#8 = 0x08#8) ∨
    (b = 0x33#8 ∧ ∃ ch, payload = ch :: List.replicate 7 0#8) ∨
    (b = 0x6F#8 ∧ payload = [0#8, 0#8])
  | .ctrlIn b _ _ n => (b = 0x20#8 ∨ b = 0x6E#8) ∧ n = 2
  | .bulkOut e bytes => e = 0x01#8 ∧ ∃ payload, bytes = envelope payload ∧ ddsPayload payload

/-! ## Runs of a MORSE command -/

/-- The caller waits for the result port before it presents its next command. -/
def callerWaits (s : State) : Prop := ∀ q rest, s.port = q :: rest → q.waits = true

/-- The state with the sequencer's registers forgotten: what the big-step procedure of 45_morse.md
R190 speaks of. -/
def State.forgetSequencer (s : State) : State :=
  { s with txt := [], pos := 0, lastWS := true, pendGap := false, code := [], sym := 0 }

/-- The total symbol count of the MAPPED bytes of a message (45_morse.md R196). -/
def symbolCount (p : Params) : List Byte → Nat
  | [] => 0
  | c :: cs =>
    (if classOf p c = .mapped then ((tableCode p (fold c)).getD []).length else 0) + symbolCount p cs

/-- The number of MAPPED bytes of a message (45_morse.md R196). -/
def mappedCount (p : Params) : List Byte → Nat
  | [] => 0
  | c :: cs => (if classOf p c = .mapped then 1 else 0) + mappedCount p cs

/-- The number of word gaps of a message (45_morse.md R181, R193): the WS bytes that are the first since
a MAPPED byte. The flag says that no MAPPED byte has come since the last word gap. -/
def wordGapCount (p : Params) : Bool → List Byte → Nat
  | _, [] => 0
  | lastWS, c :: cs =>
    match classOf p c with
    | .mapped => wordGapCount p false cs
    | .unmapped => wordGapCount p lastWS cs
    | .ws => (if lastWS then 0 else 1) + wordGapCount p true cs

/-- A code as 45_morse.md R161 writes it, `.` for DOT and `-` for DASH. -/
def codeOf (s : String) : List Symbol := s.toList.map fun c => if c = '.' then .dot else .dash

end Sys2Proof.Machine
end

