-- ==== Sys2Proof/Certificates/Slice0/Obligations.lean ====
section
/-! DEFINITION. The statements for the provers. Each docstring names the rules of spec/ it formalises,
and where it rests on a choice of the model, the log entry. -/

open Sys2Proof Sys2Proof.Machine

/-! ## Encoding -/

/-- 30_encoding.md R75 to R96: decoding the image of a well-formed instruction gives it back, for
every value of the OPEN parameters. -/
def Obligations.EncodeThenDecodeGivesInstruction : Prop :=
  ∀ (p : Params) (i : Instr) (bs : List Byte),
    i.wf = true → encode p i = some bs → decode p.ampShift bs = .ok i

/-- 30_encoding.md R96: an image that decodes is the image of the well-formed instruction it names;
an OTP_LOCK image is one for some sub-address, whose wValue no row matches. -/
def Obligations.DecodedImageIsTheInstructionsImage : Prop :=
  ∀ (p : Params) (bs : List Byte) (i : Instr), decode p.ampShift bs = .ok i →
    i.wf = true ∧ (i ≠ .otpLock → encode p i = some bs) ∧
      (i = .otpLock → ∃ v : Half, bs = (otpLockRequest v).image)

/-- 95_test_vectors.md S2, S8, G8, G13, O1, O4, D3, D19, D11, D25, and D29: ten images written out from
the spec's encodings, of all three formats, decode to the instructions they stand for. -/
def Obligations.VectorImagesDecode : Prop :=
  decode .zero [0x40#8, 0x31#8, 0#8, 0#8, 0#8, 0#8, 2#8, 0#8, 0#8, 0x18#8] = .ok (.spiMode 0 1 0) ∧
  decode .zero [0x40#8, 0x25#8, 0#8, 0#8, 0#8, 0#8, 2#8, 0#8, 1#8, 2#8] = .ok (.csSelect 1) ∧
  decode .zero [0x40#8, 0x21#8, 0#8, 0#8, 0#8, 0#8, 4#8, 0#8, 0#8, 0x40#8, 0#8, 0x40#8] =
    .ok (.gpioSetB1b6 1) ∧
  decode .zero [0xC0#8, 0x20#8, 0#8, 0#8, 0#8, 0#8, 2#8, 0#8] = .ok .gpioGet ∧
  decode .zero [0xC0#8, 0x6E#8, 0#8, 0#8, 0#8, 0#8, 2#8, 0#8] = .ok .otpQuery ∧
  decode .zero [0x40#8, 0x6F#8, 0xF1#8, 0xA5#8, 0#8, 0#8, 2#8, 0#8, 0#8, 0#8] = .ok .otpLock ∧
  decode .zero [0#8, 0#8, 1#8, 0#8, 4#8, 0#8, 0#8, 0#8, 0x45#8, 0x67#8, 0x44#8, 0x8D#8] =
    .ok (.ddsFreq0 0x1234567) ∧
  decode .zero [0#8, 0#8, 1#8, 0#8, 2#8, 0#8, 0#8, 0#8, 0xE1#8, 0x23#8] = .ok (.ddsPhase1 0x123) ∧
  decode .two [0#8, 0#8, 1#8, 0#8, 2#8, 0#8, 0#8, 0#8, 0x0F#8, 0xFC#8] = .ok (.ddsAmp 0x3FF) ∧
  decode .zero [0#8, 0#8, 1#8, 0#8, 2#8, 0#8, 0#8, 0#8, 0x0F#8, 0xFC#8] = .error .ampAlignment ∧
  decode .zero [0#8, 0#8, 1#8, 0#8, 2#8, 0#8, 0#8, 0#8, 0x22#8, 0x02#8] = .ok (.ddsShape .triangle)

/-- 30_encoding.md R93: the classes of images are disjoint, so no image matches two rows. -/
def Obligations.NoImageMatchesTwoRows : Prop :=
  ∀ bs : List Byte, (rows.filter fun row => row.hits bs).length ≤ 1

/-- 20_memory.md R62 and 30_encoding.md R94: a command's transfer has the length the table of R62
gives it, and its image the length a decoder reads from it. -/
def Obligations.EveryCommandMovesItsFixedLength : Prop :=
  ∀ (p : Params) (i : Instr) (r : Request), i.request p = some r →
    imageLength r.image = some r.image.length ∧
    r.expectedLen =
      (match instrOp i with
       | some .spiMode => 2
       | some .csSelect => 2
       | some .csDisable => 2
       | some .otpLock => 2
       | some .delayDisable => 8
       | some .gpioSet => 4
       | some .reset => 0
       | some .gpioGet => 2
       | some .otpQuery => 2
       | some .ddsFreq => 12
       | some .ddsPhase => 10
       | some .ddsAmp => 10
       | some .ddsShape => 10
       | some .morse => 0
       | none => 0)

/-- 44_dds.md R145: the round-trip law of the frequency and phase words, with no bit bleed between
tag and value. -/
def Obligations.TaggedWordsRoundTrip : Prop :=
  (∀ (reg : FreqReg) (v : BitVec 28),
    (freqWordHigh reg v).extractLsb' 0 14 ++ (freqWordLow reg v).extractLsb' 0 14 = v ∧
    (freqWordLow reg v).extractLsb' 14 2 = (match reg with | .freq0 => 0b01#2 | .freq1 => 0b10#2) ∧
    (freqWordHigh reg v).extractLsb' 14 2 = (match reg with | .freq0 => 0b01#2 | .freq1 => 0b10#2)) ∧
  (∀ (reg : PhaseReg) (v : BitVec 12),
    (phaseWord reg v).extractLsb' 0 12 = v ∧
    (phaseWord reg v).extractLsb' 12 4 =
      (match reg with | .phase0 => 0b1100#4 | .phase1 => 0b1110#4))

/-- 30_encoding.md R97: whatever the state, the transfers a step adds to the trace are none of the
never-issued encodings. -/
def Obligations.NeverIssuedEncodingsAreNeverIssued : Prop :=
  ∀ s t : State, step s = .next t →
    ∃ es, t.trace = s.trace ++ es ∧ ∀ r ∈ requestsOf es, Issuable r

/-! ## The port, reset, the step -/

/-- 70_reset_and_hazards.md R225: every field of the block's record at its reset value; `S.rdata` is
unspecified there, and nothing is said of it. -/
def Obligations.BlockResetValues : Prop :=
  State.reset.busy = false ∧ State.reset.result = .none ∧ State.reset.acc.entries = [] ∧
  State.reset.acc.count = 0 ∧ State.reset.phase = .idle ∧ State.reset.txt = [] ∧
  State.reset.pos = 0 ∧ State.reset.lastWS = true ∧ State.reset.pendGap = false ∧
  State.reset.code = [] ∧ State.reset.sym = 0

/-- 70_reset_and_hazards.md R227 and R228: after reset the block waits, IDLE, and issues nothing.
That waiting is a step with the same state is the model's choice (log 30). -/
def Obligations.BlockWaitsForACommand : Prop :=
  step State.reset = .next State.reset ∧ State.reset.trace = [] ∧
  ∀ s : State, s.phase = .idle → s.port = [] → step s = .next s

/-- The step runs the instruction that the presented image decodes to (30_encoding.md R96), or that
the presented record or line names (R84, R85), on the state from which the presentation has been
taken; the port is the model's (log 6). -/
def Obligations.StepRunsThePresentedInstruction : Prop :=
  ∀ (s : State) (q : Presentation) (rest : List Presentation) (i : Instr),
    s.port = q :: rest → (s.phase = .idle ∨ q.waits = false) →
    ((∃ bs, q.item = .image bs ∧ decode s.params.ampShift bs = .ok i) ∨
     (∃ c, q.item = .record c ∧ commandInstr s.params c = .ok i) ∨
     (∃ text c, q.item = .line text ∧ parseLine text = some c ∧ commandInstr s.params c = .ok i)) →
    step s = exec i { s with port := rest }

/-- 30_encoding.md R88: what the port refuses, each refusal with no next state and so with no event
and no state change; and that the channel byte is not range-checked. -/
def Obligations.PortRefusesWhatDoesNotFit : Prop :=
  (∀ (i : Instr) (s : State) (op : Op), instrOp i = some op →
    (s.busy = true → exec i s = .refused .busy) ∧
    (s.busy = false → i.wf = false → exec i s = .refused .operandTooWide) ∧
    (s.busy = false → i.wf = true → ∃ t, exec i s = .next t)) ∧
  (∀ ch cpol cpha level v : Nat,
    ((Instr.spiMode ch cpol cpha).wf = true ↔ ch < 256 ∧ cpol < 2 ∧ cpha < 2) ∧
    ((Instr.csSelect ch).wf = true ↔ ch < 256) ∧
    ((Instr.csDisable ch).wf = true ↔ ch < 256) ∧
    ((Instr.delayDisable ch).wf = true ↔ ch < 256) ∧
    (∀ pin : Pin, (gpioSetInstr pin level).wf = true ↔ level < 2) ∧
    ((Instr.ddsFreq0 v).wf = true ↔ v < 2 ^ 28) ∧
    ((Instr.ddsFreq1 v).wf = true ↔ v < 2 ^ 28) ∧
    ((Instr.ddsPhase0 v).wf = true ↔ v < 2 ^ 12) ∧
    ((Instr.ddsPhase1 v).wf = true ↔ v < 2 ^ 12) ∧
    ((Instr.ddsAmp v).wf = true ↔ v < 2 ^ 10)) ∧
  (∀ (s : State) (rest : List Presentation) (w : Bool) (v byte bit level : Nat),
    (s.phase = .idle ∨ w = false) →
    (∀ reg, (reg = .phase0 ∨ reg = .phase1) →
      s.port = { item := .record (.ddsFreq reg v), waits := w } :: rest →
      step s = .refused .wrongTagKind) ∧
    (∀ reg, (reg = .freq0 ∨ reg = .freq1) →
      s.port = { item := .record (.ddsPhase reg v), waits := w } :: rest →
      step s = .refused .wrongTagKind) ∧
    ((∀ pin : Pin, ¬ (pin.byteIndex = byte ∧ pin.bitIndex = bit)) →
      s.port = { item := .record (.gpioSet byte bit level), waits := w } :: rest →
      step s = .refused .pinNotMapped))

/-- 30_encoding.md R86: each pseudo-command names exactly one command. -/
def Obligations.PseudoCommandsExpand : Prop :=
  ∀ (p : Params) (v : Nat) (tag : RegTag),
    commandInstr p .dacOn =
      commandInstr p (.gpioSet p.dacEnPin.byteIndex p.dacEnPin.bitIndex (if p.dacEnActive then 1 else 0)) ∧
    commandInstr p .dacOff =
      commandInstr p
        (.gpioSet p.dacEnPin.byteIndex p.dacEnPin.bitIndex (1 - (if p.dacEnActive then 1 else 0))) ∧
    commandInstr p (.setFrequency v tag) = commandInstr p (.ddsFreq tag v)

/-- 30_encoding.md R85: the rule's own examples. -/
def Obligations.AssemblerExamplesParse : Prop :=
  parseLine (ascii "SPI_MODE 0, 1, 0") = some (.spiMode 0 1 0) ∧
  parseLine (ascii "CS_SELECT 0") = some (.csSelect 0) ∧
  parseLine (ascii "GPIO_SET GP_B1_6, 1") = some (.gpioSet 1 6 1) ∧
  parseLine (ascii "DDS_FREQ FREQ0, 0x3FFFFFF") = some (.ddsFreq .freq0 0x3FFFFFF) ∧
  parseLine (ascii "DDS_SHAPE SINE") = some (.ddsShape .sine) ∧
  parseLine (ascii "MORSE \"SOS\"") = some (.morse [0x53#8, 0x4F#8, 0x53#8])

/-! ## Calls and the accumulator -/

/-- 20_memory.md R50 and R51: a call has exactly one response, in the one `Xfer` event it issues; it succeeds
exactly when that is `ok` with the format's expected length; one that does not complete within 100 ms is
answered `iofail`; and with a handle some answer of the device makes it succeed and some makes it
`iofail`. That a call without a handle is answered `iofail` is 70_reset_and_hazards.md R229 as the model
reads it (log 5, the model's choice), and that one of exactly 100 ms is in time is the model's choice
(log 21). -/
def Obligations.CallSucceedsExactlyAtItsLength : Prop :=
  ∀ (s : State) (r : Request),
    (s.issue r).trace = s.trace ++ [.xfer r (s.reply r)] ∧
    (s.good r = true ↔ ∃ k data, s.reply r = .ok k data ∧
      k = (match r with
           | .ctrlOut _ _ _ payload => payload.length
           | .ctrlIn _ _ _ n => n
           | .bulkOut _ bytes => bytes.length)) ∧
    (s.handle = false → s.reply r = .iofail) ∧
    (s.nextAnswer = .iofail → s.reply r = .iofail) ∧
    (∀ ms k draw, s.nextAnswer = .ok ms k draw → 100 < ms → s.reply r = .iofail) ∧
    (∀ ms k draw, s.handle = true → s.nextAnswer = .ok ms k draw → ms ≤ 100 →
      ∃ data, s.reply r = .ok k data) ∧
    (s.handle = true → (∃ a, State.good { s with answers := [a] } r = true) ∧
      (∃ a, State.reply { s with answers := [a] } r = .iofail))

/-- 41_spi_config.md R100: every command of one transfer, in every form, ends with `Exec1`'s state
change: OK or FAIL by the response, `S.rdata` by a read that succeeded, an entry for a transport
error, and no sequencer register changed. -/
def Obligations.EncoderCommandsRunOneTransfer : Prop :=
  ∀ (i : Instr) (s : State) (r : Request) (op : Op),
    i.request s.params = some r → instrOp i = some op → i.wf = true → s.busy = false →
    ∃ t, exec i s = .next t ∧
      ranOneTransfer s t op r
        (match r, s.good r with
         | .ctrlIn b _ _ _, true => s.readBack b
         | _, _ => s.rdata)

/-- 60_exceptions.md R203 and R206, with R201: a step leaves the accumulator's entries in place and
adds at most one, at the end, with one more in the count; an entry is added exactly where the step's
last event is a call that did not transfer its expected length, it carries that call's request
identifier and the mnemonic of the command that issues it, and the command ends FAIL. -/
def Obligations.AccumulatorRecordsEachTransportError : Prop :=
  ∀ s t : State, step s = .next t →
    (t.acc = s.acc ∧ ∀ es r rep, t.trace = s.trace ++ es → .xfer r rep ∈ es → rep.good r = true) ∨
    (∃ i r rep op msg, i.request s.params = some r ∧ instrOp i = some op ∧
      t.trace = s.trace ++ [.xfer r rep] ∧ rep.good r = false ∧
      t.acc = { entries := s.acc.entries ++ [{ op := op, req := r.ident, msg := msg }],
                count := s.acc.count + 1 } ∧
      t.result = .fail ∧ t.busy = false)

/-! ## SPI channel configuration -/

/-- 41_spi_config.md R101 and 20_memory.md R65: SPI_MODE. Its request image byte by byte, its one
transfer, and on success its device effect. Where the channel is outside 0 and 1 the device effect is
unspecified and nothing is said of it (log 8), but that a locked OTP stays locked (10_state.md R35). That
a failed call changes no other field, and not the other channel, is the model's reading (log 7). -/
def Obligations.SpiModeWritesItsControlWord : Prop :=
  ∀ (s : State) (ch cpol cpha : Nat), s.busy = false → ch < 256 → cpol < 2 → cpha < 2 →
    let w : Byte := (BitVec.ofNat 8 cpha <<< 5) ||| (BitVec.ofNat 8 cpol <<< 4) ||| 0x08#8
    let r : Request := .ctrlOut 0x31#8 0#16 0#16 [BitVec.ofNat 8 ch, w]
    ∃ t, exec (.spiMode ch cpol cpha) s = .next t ∧ ranOneTransfer s t .spiMode r s.rdata ∧
      r.image = [0x40#8, 0x31#8, 0#8, 0#8, 0#8, 0#8, 2#8, 0#8, BitVec.ofNat 8 ch, w] ∧
      (ch = 0 → t.dev = { s.dev with spiword := { s.dev.spiword with ch0 := t.dev.spiword.ch0 } } ∧
        (s.good r = true → t.dev.spiword.ch0 = w)) ∧
      (ch = 1 → t.dev = { s.dev with spiword := { s.dev.spiword with ch1 := t.dev.spiword.ch1 } } ∧
        (s.good r = true → t.dev.spiword.ch1 = w)) ∧
      (s.dev.otp = ⟨0#8, 0#8⟩ → t.dev.otp = ⟨0#8, 0#8⟩)

/-- 41_spi_config.md R102 and 20_memory.md R64: CS_SELECT makes its channel the only member of E.cs. That
no other device field changes where the channel is outside 0 and 1, where the effect is unspecified, is
the model's choice (log 8), and after a failed call its reading (log 7). -/
def Obligations.CsSelectSelectsExactlyOneChannel : Prop :=
  ∀ (s : State) (ch : Nat), s.busy = false → ch < 256 →
    let r : Request := .ctrlOut 0x25#8 0#16 0#16 [BitVec.ofNat 8 ch, 0x02#8]
    ∃ t, exec (.csSelect ch) s = .next t ∧ ranOneTransfer s t .csSelect r s.rdata ∧
      r.image = [0x40#8, 0x25#8, 0#8, 0#8, 0#8, 0#8, 2#8, 0#8, BitVec.ofNat 8 ch, 2#8] ∧
      t.dev = { s.dev with cs := t.dev.cs } ∧
      (s.good r = true → ch = 0 → t.dev.cs = ⟨true, false⟩) ∧
      (s.good r = true → ch = 1 → t.dev.cs = ⟨false, true⟩)

/-- 41_spi_config.md R103 and 20_memory.md R64: CS_DISABLE removes its channel from E.cs, and other channels
are never affected. That no other device field changes where the channel is outside 0 and 1, where the
effect is unspecified, is the model's choice (log 8), and after a failed call its reading (log 7). -/
def Obligations.CsDisableDeselectsOneChannel : Prop :=
  ∀ (s : State) (ch : Nat), s.busy = false → ch < 256 →
    let r : Request := .ctrlOut 0x25#8 0#16 0#16 [BitVec.ofNat 8 ch, 0x00#8]
    ∃ t, exec (.csDisable ch) s = .next t ∧ ranOneTransfer s t .csDisable r s.rdata ∧
      r.image = [0x40#8, 0x25#8, 0#8, 0#8, 0#8, 0#8, 2#8, 0#8, BitVec.ofNat 8 ch, 0#8] ∧
      t.dev = { s.dev with cs := t.dev.cs } ∧
      (ch = 0 → t.dev.cs.ch1 = s.dev.cs.ch1 ∧ (s.good r = true → t.dev.cs.ch0 = false)) ∧
      (ch = 1 → t.dev.cs.ch0 = s.dev.cs.ch0 ∧ (s.good r = true → t.dev.cs.ch1 = false))

/-- 41_spi_config.md R104 and 20_memory.md R65: DELAY_DISABLE zeroes the delays of one channel. Where the
channel is outside 0 and 1 the device effect is unspecified and nothing is said of it (log 8), but that a
locked OTP stays locked (10_state.md R35). That a failed call changes no other field, and not the other
channel, is the model's reading (log 7). -/
def Obligations.DelayDisableZeroesOneChannel : Prop :=
  ∀ (s : State) (ch : Nat), s.busy = false → ch < 256 →
    let r : Request :=
      .ctrlOut 0x33#8 0#16 0#16 [BitVec.ofNat 8 ch, 0#8, 0#8, 0#8, 0#8, 0#8, 0#8, 0#8]
    ∃ t, exec (.delayDisable ch) s = .next t ∧ ranOneTransfer s t .delayDisable r s.rdata ∧
      r.image = [0x40#8, 0x33#8, 0#8, 0#8, 0#8, 0#8, 8#8, 0#8,
        BitVec.ofNat 8 ch, 0#8, 0#8, 0#8, 0#8, 0#8, 0#8, 0#8] ∧
      (ch = 0 → t.dev = { s.dev with delays := { s.dev.delays with ch0 := t.dev.delays.ch0 } } ∧
        (s.good r = true → t.dev.delays.ch0 = .zero)) ∧
      (ch = 1 → t.dev = { s.dev with delays := { s.dev.delays with ch1 := t.dev.delays.ch1 } } ∧
        (s.good r = true → t.dev.delays.ch1 = .zero)) ∧
      (s.dev.otp = ⟨0#8, 0#8⟩ → t.dev.otp = ⟨0#8, 0#8⟩)

/-! ## GPIO -/

/-- 42_gpio.md R116 and 20_memory.md R69: GPIO_GET. A read that succeeds brings two bytes; one that fails
leaves `S.rdata`; the device is unchanged. That the DAC_EN_PIN bit read is the bit of E.gpio in every
state, whatever drove it last, is R69 as the model reads it (log 14). -/
def Obligations.GpioGetReadsTheStatusWord : Prop :=
  ∀ s : State, s.busy = false →
    let r : Request := .ctrlIn 0x20#8 0#16 0#16 2
    ∃ t, exec .gpioGet s = .next t ∧ ranOneTransfer s t .gpioGet r t.rdata ∧
      r.image = [0xC0#8, 0x20#8, 0#8, 0#8, 0#8, 0#8, 2#8, 0#8] ∧ t.dev = s.dev ∧
      (s.good r = true → s.reply r = .ok 2 [t.rdata.b0, t.rdata.b1] ∧
        pinLevel s.params.dacEnPin t.rdata = pinLevel s.params.dacEnPin s.dev.gpio) ∧
      (s.good r = false → t.rdata = s.rdata)

/-- 42_gpio.md R117 and R119, 20_memory.md R63: GPIO_SET of each of the five pins. The payload has the
pin's bit in the mask and the level in that data bit; on success that one lane of the 16 takes the level;
every other lane and every other device field stays. That they stay after a failed call too is
20_memory.md R53 as the model reads it (log 7). -/
def Obligations.GpioSetDrivesOneLane : Prop :=
  ∀ (s : State) (pin : Pin) (level : Nat), s.busy = false → level < 2 →
    let m : Byte := 1#8 <<< pin.bitIndex
    let d : Byte := BitVec.ofNat 8 level <<< pin.bitIndex
    let payload : List Byte := if pin.byteIndex = 0 then [d, 0#8, m, 0#8] else [0#8, d, 0#8, m]
    let r : Request := .ctrlOut 0x21#8 0#16 0#16 payload
    ∃ t, exec (gpioSetInstr pin level) s = .next t ∧ ranOneTransfer s t .gpioSet r s.rdata ∧
      r.image = [0x40#8, 0x21#8, 0#8, 0#8, 0#8, 0#8, 4#8, 0#8] ++ payload ∧
      t.dev = { s.dev with gpio := t.dev.gpio } ∧
      (s.good r = true → pinLevel pin t.dev.gpio = decide (level = 1)) ∧
      (∀ k, (pin.byteIndex ≠ 0 ∨ k ≠ pin.bitIndex) →
        t.dev.gpio.b0.getLsbD k = s.dev.gpio.b0.getLsbD k) ∧
      (∀ k, (pin.byteIndex ≠ 1 ∨ k ≠ pin.bitIndex) →
        t.dev.gpio.b1.getLsbD k = s.dev.gpio.b1.getLsbD k)

/-- 42_gpio.md R115, R118 and R120: the five positions, the level of a pin as its one bit, and the two
predicates, for parameters whose two pins are distinct. -/
def Obligations.PinDecodeReadsOneBit : Prop :=
  ∀ (p : Params) (rd : Bytes2),
    pinLevel .b0_0 rd = rd.b0.getLsbD 0 ∧ pinLevel .b0_2 rd = rd.b0.getLsbD 2 ∧
    pinLevel .b1_5 rd = rd.b1.getLsbD 5 ∧ pinLevel .b1_6 rd = rd.b1.getLsbD 6 ∧
    pinLevel .b1_7 rd = rd.b1.getLsbD 7 ∧
    (genRunning p rd = true ↔ pinLevel (genStatusPin p) rd = p.genRunning) ∧
    (dacEnabled p rd = true ↔ pinLevel p.dacEnPin rd = p.dacEnActive) ∧
    genStatusPin p ≠ p.dacEnPin

/-! ## Device control -/

/-- 43_device_control.md R130 and 20_memory.md R68: OTP_QUERY returns E.otp, and its verdict is
"locked" exactly when both bytes are zero; after a failed query there is no verdict. -/
def Obligations.OtpQueryReportsTheLock : Prop :=
  ∀ s : State, s.busy = false →
    let r : Request := .ctrlIn 0x6E#8 0#16 0#16 2
    ∃ t, exec .otpQuery s = .next t ∧ ranOneTransfer s t .otpQuery r t.rdata ∧
      r.image = [0xC0#8, 0x6E#8, 0#8, 0#8, 0#8, 0#8, 2#8, 0#8] ∧ t.dev = s.dev ∧
      (s.good r = true → t.rdata = s.dev.otp ∧
        ∃ locked, otpVerdict t = some locked ∧
          (locked = true ↔ s.dev.otp.b0 = 0#8 ∧ s.dev.otp.b1 = 0#8)) ∧
      (s.good r = false → t.rdata = s.rdata ∧ otpVerdict t = none)

/-- 43_device_control.md R131 and 20_memory.md R68: OTP_LOCK, with wValue OTP_LOCK_WVALUE. On success both
bytes are zero; it touches no other device field; a locked OTP stays locked either way. After a failed
call the frame is the model's reading (logs 7 and 28). -/
def Obligations.OtpLockLocks : Prop :=
  ∀ s : State, s.busy = false →
    let v := s.params.otpLockWValue
    let r : Request := .ctrlOut 0x6F#8 v 0#16 [0#8, 0#8]
    ∃ t, exec .otpLock s = .next t ∧ ranOneTransfer s t .otpLock r s.rdata ∧
      r.image = [0x40#8, 0x6F#8, v.extractLsb' 0 8, v.extractLsb' 8 8, 0#8, 0#8, 2#8, 0#8, 0#8, 0#8] ∧
      t.dev = { s.dev with otp := t.dev.otp } ∧
      (s.good r = true → t.dev.otp = ⟨0#8, 0#8⟩) ∧
      (s.dev.otp = ⟨0#8, 0#8⟩ → t.dev.otp = ⟨0#8, 0#8⟩)

/-- 43_device_control.md R132, 70_reset_and_hazards.md R226 and 20_memory.md R70: RESET issues its 8-byte
image, resets no block state, and leaves E.otp; nothing is said of the other device fields. That E.otp
stays after a failed RESET too is the model's reading (log 27). -/
def Obligations.ResetCommandKeepsBlockStateAndOtp : Prop :=
  ∀ s : State, s.busy = false →
    let r : Request := .ctrlOut 0x10#8 0#16 0#16 []
    ∃ t, exec .reset s = .next t ∧ ranOneTransfer s t .reset r s.rdata ∧
      r.image = [0x40#8, 0x10#8, 0#8, 0#8, 0#8, 0#8, 0#8, 0#8] ∧ t.dev.otp = s.dev.otp ∧
      (s.good r = true → t.result = .ok ∧ t.acc = s.acc)

/-- 10_state.md R35 and 70_reset_and_hazards.md R236: no step unlocks a locked OTP. -/
def Obligations.OtpLockIsIrreversible : Prop :=
  ∀ s t : State, s.dev.otp = ⟨0#8, 0#8⟩ → step s = .next t → t.dev.otp = ⟨0#8, 0#8⟩

/-! ## DDS -/

/-- 44_dds.md R140 and R146, 20_memory.md R66: DDS_FREQ of either register. Its 12-byte image; on success,
with DDS_CHANNEL the only selected channel, B28 = 1 and the latch empty, the register takes the whole
value, the latch is empty again, and no other DDS register changes.
Where none or both channels are selected, the frame over the bridge's fields is the model's choice
(log 9), and after a failed call the frame and the wrong-channel clauses are its reading (log 7). -/
def Obligations.DdsFreqWritesTheWholeRegister : Prop :=
  ∀ (s : State) (reg : FreqReg) (v : Nat), s.busy = false → v < 2 ^ 28 →
    let tag : Half := (match reg with | .freq0 => 0x4000#16 | .freq1 => 0x8000#16)
    let w0 : Half := tag ||| BitVec.ofNat 16 (v % 2 ^ 14)
    let w1 : Half := tag ||| BitVec.ofNat 16 (v / 2 ^ 14)
    let bytes : List Byte := [0#8, 0#8, 1#8, 0#8, 4#8, 0#8, 0#8, 0#8,
      w0.extractLsb' 8 8, w0.extractLsb' 0 8, w1.extractLsb' 8 8, w1.extractLsb' 0 8]
    let r : Request := .bulkOut 0x01#8 bytes
    let i : Instr := (match reg with | .freq0 => .ddsFreq0 v | .freq1 => .ddsFreq1 v)
    ∃ t, exec i s = .next t ∧ ranOneTransfer s t .ddsFreq r s.rdata ∧
      t.dev = { s.dev with dds := t.dev.dds, amp := t.dev.amp } ∧
      (s.good r = true → soleChannel s.dev.cs = some s.params.ddsChannel →
        s.dev.dds.ctrl.getLsbD 13 = true → s.dev.dds.lsw = none →
        t.dev.dds =
          (match reg with
           | .freq0 => { s.dev.dds with freq0 := BitVec.ofNat 28 v }
           | .freq1 => { s.dev.dds with freq1 := BitVec.ofNat 28 v })) ∧
      (∀ c, soleChannel s.dev.cs = some c → c ≠ s.params.ddsChannel → t.dev.dds = s.dev.dds) ∧
      (∀ c, soleChannel s.dev.cs = some c → c ≠ s.params.ampChannel → t.dev.amp = s.dev.amp)

/-- 44_dds.md R141 and 20_memory.md R66: DDS_PHASE of either register. On success, with DDS_CHANNEL the
only selected channel, the register takes the value and no other DDS register changes.
Where none or both channels are selected, the frame over the bridge's fields is the model's choice
(log 9), and after a failed call the frame and the wrong-channel clauses are its reading (log 7). -/
def Obligations.DdsPhaseWritesItsRegister : Prop :=
  ∀ (s : State) (reg : PhaseReg) (v : Nat), s.busy = false → v < 2 ^ 12 →
    let tag : Half := (match reg with | .phase0 => 0xC000#16 | .phase1 => 0xE000#16)
    let w : Half := tag ||| BitVec.ofNat 16 v
    let bytes : List Byte := [0#8, 0#8, 1#8, 0#8, 2#8, 0#8, 0#8, 0#8,
      w.extractLsb' 8 8, w.extractLsb' 0 8]
    let r : Request := .bulkOut 0x01#8 bytes
    let i : Instr := (match reg with | .phase0 => .ddsPhase0 v | .phase1 => .ddsPhase1 v)
    ∃ t, exec i s = .next t ∧ ranOneTransfer s t .ddsPhase r s.rdata ∧
      t.dev = { s.dev with dds := t.dev.dds, amp := t.dev.amp } ∧
      (s.good r = true → soleChannel s.dev.cs = some s.params.ddsChannel →
        t.dev.dds =
          (match reg with
           | .phase0 => { s.dev.dds with phase0 := BitVec.ofNat 12 v }
           | .phase1 => { s.dev.dds with phase1 := BitVec.ofNat 12 v })) ∧
      (∀ c, soleChannel s.dev.cs = some c → c ≠ s.params.ddsChannel → t.dev.dds = s.dev.dds) ∧
      (∀ c, soleChannel s.dev.cs = some c → c ≠ s.params.ampChannel → t.dev.amp = s.dev.amp)

/-- 44_dds.md R142 and 20_memory.md R67: DDS_AMP under either AMP_SHIFT. On success, with AMP_CHANNEL the
only selected channel, the amplitude register takes the value.
Where none or both channels are selected, the frame over the bridge's fields is the model's choice
(log 9), and after a failed call the frame and the wrong-channel clauses are its reading (log 7). -/
def Obligations.DdsAmpWritesTheAmplitude : Prop :=
  ∀ (s : State) (v : Nat), s.busy = false → v < 2 ^ 10 →
    let w : Half := BitVec.ofNat 16 (v * (match s.params.ampShift with | .zero => 1 | .two => 4))
    let bytes : List Byte := [0#8, 0#8, 1#8, 0#8, 2#8, 0#8, 0#8, 0#8,
      w.extractLsb' 8 8, w.extractLsb' 0 8]
    let r : Request := .bulkOut 0x01#8 bytes
    w.extractLsb' 12 4 = 0#4 ∧
    ∃ t, exec (.ddsAmp v) s = .next t ∧ ranOneTransfer s t .ddsAmp r s.rdata ∧
      t.dev = { s.dev with dds := t.dev.dds, amp := t.dev.amp } ∧
      (s.good r = true → soleChannel s.dev.cs = some s.params.ampChannel →
        t.dev.amp = BitVec.ofNat 10 v) ∧
      (∀ c, soleChannel s.dev.cs = some c → c ≠ s.params.ddsChannel → t.dev.dds = s.dev.dds) ∧
      (∀ c, soleChannel s.dev.cs = some c → c ≠ s.params.ampChannel → t.dev.amp = s.dev.amp)

/-- 44_dds.md R143 and 20_memory.md R66: DDS_SHAPE writes the whole control register, always with B28 = 1
(bit 13) and PIN/SW = 1 (bit 9).
Where none or both channels are selected, the frame over the bridge's fields is the model's choice
(log 9), and after a failed call the frame and the wrong-channel clauses are its reading (log 7). -/
def Obligations.DdsShapeWritesTheControlRegister : Prop :=
  ∀ (s : State) (shape : Shape), s.busy = false →
    let lo : Byte := (match shape with | .sine => 0x00#8 | .triangle => 0x02#8)
    let bytes : List Byte := [0#8, 0#8, 1#8, 0#8, 2#8, 0#8, 0#8, 0#8, 0x22#8, lo]
    let r : Request := .bulkOut 0x01#8 bytes
    ∃ t, exec (.ddsShape shape) s = .next t ∧ ranOneTransfer s t .ddsShape r s.rdata ∧
      t.dev = { s.dev with dds := t.dev.dds, amp := t.dev.amp } ∧
      (s.good r = true → soleChannel s.dev.cs = some s.params.ddsChannel →
        t.dev.dds = { s.dev.dds with
          ctrl := (match shape with | .sine => 0x2200#14 | .triangle => 0x2202#14) } ∧
        t.dev.dds.ctrl.getLsbD 13 = true ∧ t.dev.dds.ctrl.getLsbD 9 = true) ∧
      (∀ c, soleChannel s.dev.cs = some c → c ≠ s.params.ddsChannel → t.dev.dds = s.dev.dds) ∧
      (∀ c, soleChannel s.dev.cs = some c → c ≠ s.params.ampChannel → t.dev.amp = s.dev.amp)

/-- 70_reset_and_hazards.md R230: the boot orders. Where every command of the DDS order succeeds from a
state with an empty latch, and then every one of any DDS_FREQ and DDS_PHASE commands, each of them has
left its whole value in its register; and the amplitude order leaves its value in the amplitude
register. -/
def Obligations.BootOrderTakesEffect : Prop :=
  (∀ (s t : State) (shape : Shape) (cmds : List Command), s.dev.dds.lsw = none →
    (∀ c ∈ cmds, (∃ tag v, c = .ddsFreq tag v) ∨ (∃ tag v, c = .ddsPhase tag v)) →
    runCommands (ddsBoot s.params shape ++ cmds) s = some t →
    t.dev.dds = cmds.foldl (fun d c => ddsWrite c d)
      { s.dev.dds with ctrl := (match shape with | .sine => 0x2200#14 | .triangle => 0x2202#14) } ∧
    soleChannel t.dev.cs = some s.params.ddsChannel ∧
    channelGet t.dev.delays s.params.ddsChannel = .zero ∧
    channelGet t.dev.spiword s.params.ddsChannel =
      spiModeWord (levelOf s.params.ddsSpiCpol) (levelOf s.params.ddsSpiCpha) ∧
    t.acc = s.acc) ∧
  (∀ (s t : State) (cpol cpha v : Nat), runCommands (ampBoot s.params cpol cpha v) s = some t →
    t.dev.amp = BitVec.ofNat 10 v ∧ soleChannel t.dev.cs = some s.params.ampChannel ∧
    channelGet t.dev.delays s.params.ampChannel = .zero ∧
    channelGet t.dev.spiword s.params.ampChannel = spiModeWord cpol cpha ∧ t.acc = s.acc)

/-- 20_memory.md R53 as the model reads it (log 7; for a chip-select channel outside 0 and 1, log 8; for
no or two selected channels, log 9; for RESET, log 27): a command that ends FAIL may change only what its
request addresses: its channel, its lane, the OTP bytes, the DDS register its words address (44_dds.md
R146: with the latch), or the amplitude register. -/
def Obligations.FailedTransferTouchesOnlyItsFields : Prop :=
  ∀ (i : Instr) (s t : State) (r : Request), i.request s.params = some r → exec i s = .next t →
    s.good r = false →
    (i = .gpioGet ∨ i = .otpQuery → t.dev = s.dev) ∧
    (∀ cpol cpha,
      (i = .spiMode 0 cpol cpha →
        t.dev = { s.dev with spiword := { s.dev.spiword with ch0 := t.dev.spiword.ch0 } }) ∧
      (i = .spiMode 1 cpol cpha →
        t.dev = { s.dev with spiword := { s.dev.spiword with ch1 := t.dev.spiword.ch1 } })) ∧
    (i = .delayDisable 0 →
      t.dev = { s.dev with delays := { s.dev.delays with ch0 := t.dev.delays.ch0 } }) ∧
    (i = .delayDisable 1 →
      t.dev = { s.dev with delays := { s.dev.delays with ch1 := t.dev.delays.ch1 } }) ∧
    (∀ ch, i = .csSelect ch ∨ i = .csDisable ch → t.dev = { s.dev with cs := t.dev.cs }) ∧
    (i = .csDisable 0 → t.dev.cs.ch1 = s.dev.cs.ch1) ∧
    (i = .csDisable 1 → t.dev.cs.ch0 = s.dev.cs.ch0) ∧
    (∀ pin level, i = gpioSetInstr pin level →
      t.dev = { s.dev with gpio := t.dev.gpio } ∧ onlyLane pin s.dev.gpio t.dev.gpio) ∧
    (i = .otpLock → t.dev = { s.dev with otp := t.dev.otp }) ∧
    (i = .reset → t.dev.otp = s.dev.otp) ∧
    (∀ e, r.ident = .bulkOut e →
      t.dev = { s.dev with dds := t.dev.dds, amp := t.dev.amp } ∧
      (∀ c, soleChannel s.dev.cs = some c →
        (c ≠ s.params.ddsChannel → t.dev.dds = s.dev.dds) ∧
        (c ≠ s.params.ampChannel → t.dev.amp = s.dev.amp))) ∧
    (soleChannel s.dev.cs = some s.params.ddsChannel →
      (∀ (reg : FreqReg) (v : Nat), i = (match reg with | .freq0 => .ddsFreq0 v | .freq1 => .ddsFreq1 v) →
        s.dev.dds.ctrl.getLsbD 13 = true →
        ((∀ other low, s.dev.dds.lsw = some (other, low) → other = reg) →
          t.dev.dds =
            (match reg with
             | .freq0 => { s.dev.dds with freq0 := t.dev.dds.freq0, lsw := t.dev.dds.lsw }
             | .freq1 => { s.dev.dds with freq1 := t.dev.dds.freq1, lsw := t.dev.dds.lsw })) ∧
        t.dev.dds = { s.dev.dds with
          freq0 := t.dev.dds.freq0, freq1 := t.dev.dds.freq1, lsw := t.dev.dds.lsw }) ∧
      (∀ v, i = .ddsPhase0 v → t.dev.dds = { s.dev.dds with phase0 := t.dev.dds.phase0 }) ∧
      (∀ v, i = .ddsPhase1 v → t.dev.dds = { s.dev.dds with phase1 := t.dev.dds.phase1 }) ∧
      (∀ v shape, i = .ddsShape shape ∨ i = .ddsAmp v →
        t.dev.dds = { s.dev.dds with ctrl := t.dev.dds.ctrl }))

/-! ## Morse -/

/-- 45_morse.md R160, R161 and R162, whatever PUNCT_TABLE is: every code is non-empty, no key is in
WS_SET, no letter or digit takes its code from PUNCT_TABLE, and the codes of all 36 letters and digits. -/
def Obligations.CodeTableIsWellFormed : Prop :=
  (∀ (p : Params) (b : Byte) (code : List Symbol),
    tableCode p b = some code → code ≠ [] ∧ b ≠ 0x20#8 ∧ b ≠ 0x0A#8) ∧
  (∀ (p q : Params) (b : Byte),
    0x41 ≤ b.toNat ∧ b.toNat ≤ 0x5A ∨ 0x30 ≤ b.toNat ∧ b.toNat ≤ 0x39 →
      tableCode p b = tableCode q b ∧ (tableCode p b).isSome = true) ∧
  (∀ (p : Params), ∀ e ∈ ([
        ('A', ".-"), ('B', "-..."), ('C', "-.-."), ('D', "-.."), ('E', "."),
        ('F', "..-."), ('G', "--."), ('H', "...."), ('I', ".."), ('J', ".---"),
        ('K', "-.-"), ('L', ".-.."), ('M', "--"), ('N', "-."), ('O', "---"),
        ('P', ".--."), ('Q', "--.-"), ('R', ".-."), ('S', "..."), ('T', "-"),
        ('U', "..-"), ('V', "...-"), ('W', ".--"), ('X', "-..-"), ('Y', "-.--"),
        ('Z', "--.."), ('0', "-----"), ('1', ".----"), ('2', "..---"), ('3', "...--"),
        ('4', "....-"), ('5', "....."), ('6', "-...."), ('7', "--..."), ('8', "---.."),
        ('9', "----.")] :
        List (Char × String)),
      tableCode p (BitVec.ofNat 8 e.1.toNat) = some (codeOf e.2))

/-- 45_morse.md R163 and R164: case folding, and the three classes. -/
def Obligations.ByteClassesFollowTheTable : Prop :=
  ∀ (p : Params) (c : Byte),
    fold c = (if 0x61 ≤ c.toNat ∧ c.toNat ≤ 0x7A then c - 0x20#8 else c) ∧
    (classOf p c = .ws ↔ c = 0x20#8 ∨ c = 0x0A#8) ∧
    (classOf p c = .mapped ↔ c ≠ 0x20#8 ∧ c ≠ 0x0A#8 ∧ ∃ code, tableCode p (fold c) = some code) ∧
    (classOf p c = .unmapped ↔ c ≠ 0x20#8 ∧ c ≠ 0x0A#8 ∧ tableCode p (fold c) = none)

/-- 45_morse.md R170: acceptance of MORSE, for a text of any length. -/
def Obligations.MorseIsAcceptedAndLatched : Prop :=
  ∀ (s : State) (text : List Byte), s.busy = false →
    exec (.morse text) s = .next { s with
      busy := true
      result := .none
      txt := text
      pos := 0
      lastWS := true
      pendGap := false
      code := []
      sym := 0
      phase := .precheck }

/-- 45_morse.md R171 and R172: the precheck is one GPIO read; its four ends, the generator checked
before the DAC; it changes no device state and `S.rdata` is not written. -/
def Obligations.PrecheckReadsAndDecides : Prop :=
  ∀ s : State, s.phase = .precheck →
    let r : Request := .ctrlIn 0x20#8 0#16 0#16 2
    ∃ t, exec .seqPrecheck s = .next t ∧
      t = { s with
        phase := t.phase
        busy := t.busy
        result := t.result
        acc := t.acc
        trace := s.trace ++ [.xfer r (s.reply r)]
        answers := s.answers.tail
        calls := s.calls + 1 } ∧
      (s.good r = false → t.phase = .idle ∧ t.busy = false ∧ t.result = .fail ∧
        ∃ msg, t.acc =
          { entries := s.acc.entries ++ [{ op := .gpioGet, req := .ctrlIn 0x20#8, msg := msg }],
            count := s.acc.count + 1 }) ∧
      (s.good r = true → ∃ rd, s.reply r = .ok 2 [rd.b0, rd.b1] ∧ t.acc = s.acc ∧
        (genRunning s.params rd = false →
          t.phase = .idle ∧ t.busy = false ∧ t.result = .precondGenOff) ∧
        (genRunning s.params rd = true → dacEnabled s.params rd = true →
          t.phase = .idle ∧ t.busy = false ∧ t.result = .precondDacOn) ∧
        (genRunning s.params rd = true → dacEnabled s.params rd = false →
          t.phase = .fetch ∧ t.busy = s.busy ∧ t.result = s.result))

/-- 45_morse.md R176, R177 and R178: SEQ_END, SEQ_SKIP_WS and SEQ_SKIP_UNMAPPED, each run where its
rule says, with no event. -/
def Obligations.SilentMicroOperations : Prop :=
  ∀ s : State, s.phase = .fetch →
    (s.pos = s.txt.length → s.pendGap = false →
      exec .seqEnd s = .next { s with result := .ok, phase := .idle, busy := false } ∧
      step { s with port := [] } =
        .next { s with port := [], result := .ok, phase := .idle, busy := false }) ∧
    (∀ c, s.txt[s.pos]? = some c →
      (classOf s.params c = .ws → s.lastWS = true →
        exec .seqSkipWs s = .next { s with pos := s.pos + 1 } ∧
        step { s with port := [] } = .next { s with port := [], pos := s.pos + 1 }) ∧
      (classOf s.params c = .unmapped →
        exec .seqSkipUnmapped s = .next { s with pos := s.pos + 1 } ∧
        step { s with port := [] } = .next { s with port := [], pos := s.pos + 1 }))

/-- 45_morse.md R179: the dispatch in FETCH, which issues no event. -/
def Obligations.FetchDispatches : Prop :=
  ∀ s : State, s.phase = .fetch → s.port = [] →
    (∀ c, s.txt[s.pos]? = some c →
      (classOf s.params c = .ws → s.lastWS = false → step s = .next { s with phase := .wordGap }) ∧
      (classOf s.params c = .mapped → s.pendGap = true → step s = .next { s with phase := .charGap }) ∧
      (classOf s.params c = .mapped → s.pendGap = false →
        step s = .next { s with phase := .charStart })) ∧
    (s.pos = s.txt.length → s.pendGap = true → step s = .next { s with phase := .charGap })

/-- 45_morse.md R180, R181 and R183: SEQ_CHAR_GAP, SEQ_WORD_GAP and SEQ_CHAR_START, with their events
in order. -/
def Obligations.GapsAndCharacterStart : Prop :=
  ∀ s : State,
    (s.phase = .charGap → exec .seqCharGap s =
      .next { s with trace := s.trace ++ [.delay 2], pendGap := false, phase := .fetch }) ∧
    (s.phase = .wordGap → exec .seqWordGap s =
      .next { s with
        trace := s.trace ++ [.echo 0x20#8, .delay 4]
        pendGap := false
        lastWS := true
        pos := s.pos + 1
        phase := .fetch }) ∧
    (s.phase = .charStart → ∀ c code, s.txt[s.pos]? = some c → tableCode s.params (fold c) = some code →
      exec .seqCharStart s =
        .next { s with
          trace := s.trace ++ [.echo c]
          code := code
          sym := 0
          lastWS := false
          phase := .symOn })

/-- 45_morse.md R184 to R188, with 42_gpio.md R117 and R119: the four steps of a symbol, the level each
DAC-enable write leaves when it succeeds, and `Fail()` at one that is a transport error. That a failed
write leaves every other lane and every other device field is the model's reading (log 7). -/
def Obligations.SymbolStepsDriveTheDac : Prop :=
  ∀ s : State, s.port = [] →
    let active : Nat := if s.params.dacEnActive then 1 else 0
    let on : Request := gpioSetRequest s.params.dacEnPin active
    let off : Request := gpioSetRequest s.params.dacEnPin (1 - active)
    (∀ ph next r line, (ph = Phase.symOn ∧ next = Phase.symHold ∧ r = on ∧ line = s.params.dacEnActive) ∨
        (ph = Phase.symOff ∧ next = Phase.symGap ∧ r = off ∧ line = !s.params.dacEnActive) →
        s.phase = ph →
      ∃ t, step s = .next t ∧
        t = { s with
          phase := t.phase
          busy := t.busy
          result := t.result
          acc := t.acc
          dev := t.dev
          trace := s.trace ++ [.xfer r (s.reply r)]
          answers := s.answers.tail
          calls := s.calls + 1 } ∧
        t.dev = { s.dev with gpio := t.dev.gpio } ∧
        onlyLane s.params.dacEnPin s.dev.gpio t.dev.gpio ∧
        (s.good r = true → t.phase = next ∧ t.busy = s.busy ∧ t.result = s.result ∧ t.acc = s.acc ∧
          pinLevel s.params.dacEnPin t.dev.gpio = line) ∧
        (s.good r = false → t.phase = .idle ∧ t.busy = false ∧ t.result = .fail ∧
          ∃ msg, t.acc =
            { entries := s.acc.entries ++ [{ op := .gpioSet, req := .ctrlOut 0x21#8, msg := msg }],
              count := s.acc.count + 1 })) ∧
    (s.phase = .symHold → s.code[s.sym]? = some .dot →
      step s = .next { s with trace := s.trace ++ [.delay 1], phase := .symOff }) ∧
    (s.phase = .symHold → s.code[s.sym]? = some .dash →
      step s = .next { s with trace := s.trace ++ [.delay 3], phase := .symOff }) ∧
    (s.phase = .symGap → s.sym + 1 < s.code.length →
      step s = .next { s with trace := s.trace ++ [.delay 1], sym := s.sym + 1, phase := .symOn }) ∧
    (s.phase = .symGap → s.code.length ≤ s.sym + 1 →
      step s = .next { s with
        trace := s.trace ++ [.delay 1]
        sym := s.sym + 1
        pendGap := true
        pos := s.pos + 1
        phase := .fetch })

/-- 45_morse.md R189 and 70_reset_and_hazards.md R240: SEQ_DOT and SEQ_DASH, where no write fails: the
event sequence of the whole symbol, its duration in units, and what it leaves. That the row's
instruction is the whole symbol at once is the model's reading (log 17). -/
def Obligations.DotAndDashEmitTheirEvents : Prop :=
  ∀ (s : State) (x : Symbol), s.phase = .symOn → s.code[s.sym]? = some x →
    let held : State := (s.runSymOn).runSymHold x
    let active : Nat := if s.params.dacEnActive then 1 else 0
    let on : Request := gpioSetRequest s.params.dacEnPin active
    let off : Request := gpioSetRequest s.params.dacEnPin (1 - active)
    let hold : Nat := (match x with | .dot => 1 | .dash => 3)
    s.good on = true → held.good off = true →
    ∃ t es, exec (match x with | .dot => .seqDot | .dash => .seqDash) s = .next t ∧
      t.trace = s.trace ++ es ∧
      es = [.xfer on (.ok 4 []), .delay hold, .xfer off (.ok 4 []), .delay 1] ∧
      minDurationMs es = 50 * (hold + 1) ∧
      t.acc = s.acc ∧ t.sym = s.sym + 1 ∧ t.code = s.code ∧ t.calls = s.calls + 2 ∧
      t.result = s.result ∧ t.rdata = s.rdata ∧ t.params = s.params ∧ t.txt = s.txt ∧
      pinLevel s.params.dacEnPin t.dev.gpio = !s.params.dacEnActive ∧
      t.dev = { s.dev with gpio := t.dev.gpio } ∧
      onlyLane s.params.dacEnPin s.dev.gpio t.dev.gpio

/-- 45_morse.md R189: SEQ_DOT or SEQ_DASH always completes, and it is what the small steps SYM_ON to
SYM_GAP compute one after another, up to the first failed write (R188). -/
def Obligations.SymbolIsItsSmallSteps : Prop :=
  ∀ (s : State) (x : Symbol), s.phase = .symOn → s.port = [] → s.code[s.sym]? = some x →
    ∃ t k, exec (match x with | .dot => .seqDot | .dash => .seqDash) s = .next t ∧
      1 ≤ k ∧ k ≤ 4 ∧ Sys2Proof.core.run k s = .next t ∧
      (k < 4 → t.phase = .idle ∧ t.result = .fail)

/-- 44_dds.md R147, with 42_gpio.md R117 and R119: a step of the sequencer issues no transfer but a GPIO
read and writes of DAC_EN_PIN, and changes no device field but E.gpio, and there no lane but the one of
DAC_EN_PIN. That this holds of a write that fails too is the model's reading (log 7). -/
def Obligations.SequencerTouchesOnlyGpio : Prop :=
  ∀ s t : State, sequencerStep s = .next t →
    t.dev = { s.dev with gpio := t.dev.gpio } ∧ onlyLane s.params.dacEnPin s.dev.gpio t.dev.gpio ∧
    ∃ es, t.trace = s.trace ++ es ∧ ∀ r ∈ requestsOf es,
      r = .ctrlIn 0x20#8 0#16 0#16 2 ∨ r = gpioSetRequest s.params.dacEnPin 0 ∨
      r = gpioSetRequest s.params.dacEnPin 1

/-- 10_state.md R23 and R24: while a MORSE command is active the message never changes, and a step
keeps the position or moves it by exactly one. -/
def Obligations.MessageIsLatchedAndPositionAdvances : Prop :=
  ∀ s t : State, Inv s → s.phase ≠ .idle → step s = .next t →
    t.txt = s.txt ∧ (t.pos = s.pos ∨ t.pos = s.pos + 1) ∧ t.pos ≤ t.txt.length

/-- 10_state.md R25 and R26: how a step of an active MORSE command may change the two gap flags. -/
def Obligations.GapFlagsChangeOnlyByTheirRules : Prop :=
  ∀ s t : State, Inv s → s.phase ≠ .idle → step s = .next t →
    (s.lastWS = true → t.lastWS = false → s.phase = .charStart) ∧
    (s.lastWS = false → t.lastWS = true → s.phase = .wordGap) ∧
    (s.pendGap = false → t.pendGap = true → s.phase = .symGap ∧ t.sym = t.code.length) ∧
    (s.pendGap = true → t.pendGap = false → s.phase = .charGap ∨ s.phase = .wordGap)

/-- 45_morse.md R190 and R196: from acceptance, a MORSE command whose caller waits reaches IDLE after
finitely many steps, and its events and end state are those of the big-step procedure. -/
def Obligations.SmallStepsComputeTheBigStep : Prop :=
  ∀ (s : State) (text : List Byte), s.phase = .idle → s.busy = false → callerWaits s →
    ∃ n t, Sys2Proof.core.run n (s.acceptMorse text) = .next t ∧ t.phase = .idle ∧ t.busy = false ∧
      t.forgetSequencer = (morseRun text s).forgetSequencer

/-- 45_morse.md R196: the bounds on the transfers, the delays and the echoes of a MORSE command. -/
def Obligations.MorseTransfersAndEchoesAreBounded : Prop :=
  ∀ (s : State) (text : List Byte),
    ∃ es, (morseRun text s).trace = s.trace ++ es ∧
      (requestsOf es).length ≤ 1 + 2 * symbolCount s.params text ∧
      delaysOf es ≤
        2 * symbolCount s.params text + mappedCount s.params text + wordGapCount s.params true text ∧
      (echoesOf es).length ≤ text.length ∧
      (morseRun text s).calls = s.calls + (requestsOf es).length

/-- 45_morse.md R194: deleting every UNMAPPED byte leaves the events and the end state. -/
def Obligations.UnmappedBytesAreTransparent : Prop :=
  ∀ (s : State) (text : List Byte),
    morseRun (text.filter fun c => classOf s.params c ≠ .unmapped) s = morseRun text s

/-- 45_morse.md R191: with no failure, the pulses of a character: one for each symbol of its code, a DOT
held 1 unit and a DASH 3, each followed by 1 unit inactive. What follows the last pulse is GapLaw's. -/
def Obligations.PulseLaw : Prop :=
  ∀ (code : List Symbol) (s : State), (morseSymbols code s).2 = true →
    let active : Nat := if s.params.dacEnActive then 1 else 0
    let on : Request := gpioSetRequest s.params.dacEnPin active
    let off : Request := gpioSetRequest s.params.dacEnPin (1 - active)
    (morseSymbols code s).1.trace = s.trace ++ code.flatMap fun x =>
      [.xfer on (.ok 4 []), .delay (match x with | .dot => 1 | .dash => 3), .xfer off (.ok 4 []), .delay 1]

/-- 45_morse.md R191 and R192: what follows a character whose symbols have all succeeded. Its events end
with its last DAC_OFF and 1 unit. At the end of the message, or before the next mapped byte, unmapped
bytes aside, 2 units follow: 3 inactive units. A run of whitespace and unmapped bytes with a WS byte in it
gives an echoed space and 4 units instead, and no owed gap after it: 5 inactive units. -/
def Obligations.GapLaw : Prop :=
  ∀ (s : State) (c : Byte) (code : List Symbol) (lastWS pend : Bool),
    classOf s.params c = .mapped → tableCode s.params (fold c) = some code →
    let start : State := (if pend then s.emit (.delay 2) else s).emit (.echo c)
    let after : State := (morseSymbols code start).1
    let charGap : State := after.emit (.delay 2)
    let wordGap : State := (after.emit (.echo 0x20#8)).emit (.delay 4)
    let off : Request := gpioSetRequest s.params.dacEnPin (1 - (if s.params.dacEnActive then 1 else 0))
    (morseSymbols code start).2 = true →
    (∃ es three five,
      charGap.trace = es ++ .xfer off (.ok 4 []) :: three ∧ delayUnits three = 3 ∧
      wordGap.trace = es ++ .xfer off (.ok 4 []) :: five ∧ delayUnits five = 5 ∧
      requestsOf three = [] ∧ requestsOf five = []) ∧
    (∀ skipped, (∀ b ∈ skipped, classOf s.params b = .unmapped) →
      morseText (c :: skipped) lastWS pend s = charGap.endWith .ok ∧
      (∀ d rest, classOf s.params d = .mapped →
        morseText (c :: skipped ++ d :: rest) lastWS pend s = morseText (d :: rest) false false charGap)) ∧
    (∀ run rest, (∀ b ∈ run, classOf s.params b ≠ .mapped) → (∃ b ∈ run, classOf s.params b = .ws) →
      morseText (c :: run ++ rest) lastWS pend s = morseText rest true false wordGap)

/-- 45_morse.md R193: a run of WS bytes, mixed with UNMAPPED bytes, collapses. Before any mapped byte it
gives nothing; after one it gives one echoed space and one delay of 4 units if it holds a WS byte, however
many, and otherwise leaves the owed gap as it was. -/
def Obligations.CollapseLaw : Prop :=
  ∀ (s : State) (run rest : List Byte), (∀ b ∈ run, classOf s.params b ≠ .mapped) →
    morseRun (run ++ rest) s = morseRun rest s ∧
    morseText (run ++ rest) true false s = morseText rest true false s ∧
    (∀ pend : Bool, (∃ b ∈ run, classOf s.params b = .ws) →
      morseText (run ++ rest) false pend s =
        morseText rest true false ((s.emit (.echo 0x20#8)).emit (.delay 4))) ∧
    (∀ lastWS pend : Bool, (∀ b ∈ run, classOf s.params b ≠ .ws) →
      morseText (run ++ rest) lastWS pend s = morseText rest lastWS pend s)

/-- 45_morse.md R193, the leading case, and R176's corner case: a message of whitespace and unmapped
bytes only does what the empty message does: no event but the precheck read, and no device change. -/
def Obligations.MessageWithoutMappedBytesIsSilent : Prop :=
  ∀ (s : State) (text : List Byte), (∀ c ∈ text, classOf s.params c ≠ .mapped) →
    morseRun text s = morseRun [] s ∧
    (morseRun text s).trace = s.trace ++ [.xfer gpioGetRequest (s.reply gpioGetRequest)] ∧
    (morseRun text s).dev = s.dev

/-- 45_morse.md R195, with 60_exceptions.md R201 and R207: a MORSE command ends FAIL exactly when its
accumulator has grown, by exactly one entry, of GPIO_GET for the read and of GPIO_SET for a write, and
then its last event is the call that failed, and its only one. -/
def Obligations.MorseStopsAtItsFirstFailure : Prop :=
  ∀ (s : State) (text : List Byte),
    ((morseRun text s).result = .fail ∧
      ∃ es r rep op msg, (morseRun text s).trace = s.trace ++ es ++ [.xfer r rep] ∧ rep.good r = false ∧
        (∀ r' rep', .xfer r' rep' ∈ es → rep'.good r' = true) ∧
        (r = gpioGetRequest ∧ op = .gpioGet ∨ (∃ level, r = gpioSetRequest s.params.dacEnPin level) ∧
          op = .gpioSet) ∧
        (morseRun text s).acc =
          { entries := s.acc.entries ++ [{ op := op, req := r.ident, msg := msg }],
            count := s.acc.count + 1 }) ∨
    ((morseRun text s).result ≠ .fail ∧ (morseRun text s).acc = s.acc ∧
      ∃ es, (morseRun text s).trace = s.trace ++ es ∧
        ∀ r rep, .xfer r rep ∈ es → rep.good r = true)

/-- 45_morse.md R197 with 20_memory.md R63: a MORSE command that ends OK leaves the DAC-enable line
inactive. For a text without a mapped byte it rests on the precheck reading the DAC_EN_PIN bit of E.gpio
in every state, which is 20_memory.md R69 as the model reads it (log 14). -/
def Obligations.MorseOkLeavesTheDacInactive : Prop :=
  ∀ (s : State) (text : List Byte), (morseRun text s).result = .ok →
    dacLineActive s.params (morseRun text s).dev = false

/-- 45_morse.md R197: the step that ends a MORSE command with OK leaves the registers as R197 says. -/
def Obligations.EndStateAfterOk : Prop :=
  ∀ s t : State, Inv s → s.phase ≠ .idle → step s = .next t → t.phase = .idle → t.result = .ok →
    t.busy = false ∧ t.pendGap = false ∧ t.pos = t.txt.length

/-! ## Invariants -/

/-- The invariant holds after reset. -/
def Obligations.InvariantHoldsAtReset : Prop := Inv State.reset

/-- Every step keeps the invariant (10_state.md R21 to R30, 45_morse.md R177, R179). -/
def Obligations.EveryStepKeepsTheInvariant : Prop :=
  ∀ s t : State, Inv s → step s = .next t → Inv t

/-- 93_implementation_defined.md part 1: a state with the invariant never stops with a fault, and one
whose caller waits for the result port and is busy always has a next state. -/
def Obligations.NoFaultUnderTheInvariant : Prop :=
  ∀ s : State, Inv s →
    (∀ f, step s ≠ .fault f) ∧ (s.busy = true → callerWaits s → ∃ t, step s = .next t)

/-- The parameters are the model's own field (log 1): no step writes them, and none closes or opens
the handle (log 5). -/
def Obligations.ParametersAreFixed : Prop :=
  ∀ s t : State, step s = .next t → t.params = s.params ∧ t.handle = s.handle
end

