-- ==== Sys2Proof/Laws/State.lean ====
section
/-! SUPPORT. One lemma per field per named update of the state, each true by `rfl`. -/

namespace Sys2Proof.Machine

/-! ## `State.emit` -/

@[simp] theorem State.emit_params (s : State) (e : Event) :
    (s.emit e).params = s.params := rfl

@[simp] theorem State.emit_busy (s : State) (e : Event) :
    (s.emit e).busy = s.busy := rfl

@[simp] theorem State.emit_result (s : State) (e : Event) :
    (s.emit e).result = s.result := rfl

@[simp] theorem State.emit_rdata (s : State) (e : Event) :
    (s.emit e).rdata = s.rdata := rfl

@[simp] theorem State.emit_acc (s : State) (e : Event) :
    (s.emit e).acc = s.acc := rfl

@[simp] theorem State.emit_phase (s : State) (e : Event) :
    (s.emit e).phase = s.phase := rfl

@[simp] theorem State.emit_txt (s : State) (e : Event) :
    (s.emit e).txt = s.txt := rfl

@[simp] theorem State.emit_pos (s : State) (e : Event) :
    (s.emit e).pos = s.pos := rfl

@[simp] theorem State.emit_lastWS (s : State) (e : Event) :
    (s.emit e).lastWS = s.lastWS := rfl

@[simp] theorem State.emit_pendGap (s : State) (e : Event) :
    (s.emit e).pendGap = s.pendGap := rfl

@[simp] theorem State.emit_code (s : State) (e : Event) :
    (s.emit e).code = s.code := rfl

@[simp] theorem State.emit_sym (s : State) (e : Event) :
    (s.emit e).sym = s.sym := rfl

@[simp] theorem State.emit_dev (s : State) (e : Event) :
    (s.emit e).dev = s.dev := rfl

@[simp] theorem State.emit_handle (s : State) (e : Event) :
    (s.emit e).handle = s.handle := rfl

@[simp] theorem State.emit_port (s : State) (e : Event) :
    (s.emit e).port = s.port := rfl

@[simp] theorem State.emit_answers (s : State) (e : Event) :
    (s.emit e).answers = s.answers := rfl

@[simp] theorem State.emit_calls (s : State) (e : Event) :
    (s.emit e).calls = s.calls := rfl

@[simp] theorem State.emit_trace (s : State) (e : Event) :
    (s.emit e).trace = s.trace ++ [e] := rfl

/-! ## `State.issue` -/

@[simp] theorem State.issue_params (s : State) (r : Request) :
    (s.issue r).params = s.params := rfl

@[simp] theorem State.issue_busy (s : State) (r : Request) :
    (s.issue r).busy = s.busy := rfl

@[simp] theorem State.issue_result (s : State) (r : Request) :
    (s.issue r).result = s.result := rfl

@[simp] theorem State.issue_rdata (s : State) (r : Request) :
    (s.issue r).rdata = s.rdata := rfl

@[simp] theorem State.issue_acc (s : State) (r : Request) :
    (s.issue r).acc = s.acc := rfl

@[simp] theorem State.issue_phase (s : State) (r : Request) :
    (s.issue r).phase = s.phase := rfl

@[simp] theorem State.issue_txt (s : State) (r : Request) :
    (s.issue r).txt = s.txt := rfl

@[simp] theorem State.issue_pos (s : State) (r : Request) :
    (s.issue r).pos = s.pos := rfl

@[simp] theorem State.issue_lastWS (s : State) (r : Request) :
    (s.issue r).lastWS = s.lastWS := rfl

@[simp] theorem State.issue_pendGap (s : State) (r : Request) :
    (s.issue r).pendGap = s.pendGap := rfl

@[simp] theorem State.issue_code (s : State) (r : Request) :
    (s.issue r).code = s.code := rfl

@[simp] theorem State.issue_sym (s : State) (r : Request) :
    (s.issue r).sym = s.sym := rfl

@[simp] theorem State.issue_dev (s : State) (r : Request) :
    (s.issue r).dev = deviceAfter s.params s.calls r (s.good r) s.dev := rfl

@[simp] theorem State.issue_handle (s : State) (r : Request) :
    (s.issue r).handle = s.handle := rfl

@[simp] theorem State.issue_port (s : State) (r : Request) :
    (s.issue r).port = s.port := rfl

@[simp] theorem State.issue_answers (s : State) (r : Request) :
    (s.issue r).answers = s.answers.tail := rfl

@[simp] theorem State.issue_calls (s : State) (r : Request) :
    (s.issue r).calls = s.calls + 1 := rfl

@[simp] theorem State.issue_trace (s : State) (r : Request) :
    (s.issue r).trace = s.trace ++ [.xfer r (s.reply r)] := rfl

/-! ## `State.raise` -/

@[simp] theorem State.raise_params (s : State) (op : Op) (req : ReqId) :
    (s.raise op req).params = s.params := rfl

@[simp] theorem State.raise_busy (s : State) (op : Op) (req : ReqId) :
    (s.raise op req).busy = s.busy := rfl

@[simp] theorem State.raise_result (s : State) (op : Op) (req : ReqId) :
    (s.raise op req).result = s.result := rfl

@[simp] theorem State.raise_rdata (s : State) (op : Op) (req : ReqId) :
    (s.raise op req).rdata = s.rdata := rfl

@[simp] theorem State.raise_acc (s : State) (op : Op) (req : ReqId) :
    (s.raise op req).acc = ⟨s.acc.entries ++ [⟨op, req, Config.freeMsg s.calls⟩], s.acc.count + 1⟩ := rfl

@[simp] theorem State.raise_phase (s : State) (op : Op) (req : ReqId) :
    (s.raise op req).phase = s.phase := rfl

@[simp] theorem State.raise_txt (s : State) (op : Op) (req : ReqId) :
    (s.raise op req).txt = s.txt := rfl

@[simp] theorem State.raise_pos (s : State) (op : Op) (req : ReqId) :
    (s.raise op req).pos = s.pos := rfl

@[simp] theorem State.raise_lastWS (s : State) (op : Op) (req : ReqId) :
    (s.raise op req).lastWS = s.lastWS := rfl

@[simp] theorem State.raise_pendGap (s : State) (op : Op) (req : ReqId) :
    (s.raise op req).pendGap = s.pendGap := rfl

@[simp] theorem State.raise_code (s : State) (op : Op) (req : ReqId) :
    (s.raise op req).code = s.code := rfl

@[simp] theorem State.raise_sym (s : State) (op : Op) (req : ReqId) :
    (s.raise op req).sym = s.sym := rfl

@[simp] theorem State.raise_dev (s : State) (op : Op) (req : ReqId) :
    (s.raise op req).dev = s.dev := rfl

@[simp] theorem State.raise_handle (s : State) (op : Op) (req : ReqId) :
    (s.raise op req).handle = s.handle := rfl

@[simp] theorem State.raise_port (s : State) (op : Op) (req : ReqId) :
    (s.raise op req).port = s.port := rfl

@[simp] theorem State.raise_answers (s : State) (op : Op) (req : ReqId) :
    (s.raise op req).answers = s.answers := rfl

@[simp] theorem State.raise_calls (s : State) (op : Op) (req : ReqId) :
    (s.raise op req).calls = s.calls := rfl

@[simp] theorem State.raise_trace (s : State) (op : Op) (req : ReqId) :
    (s.raise op req).trace = s.trace := rfl

/-! ## `State.toPhase` -/

@[simp] theorem State.toPhase_params (s : State) (ph : Phase) :
    (s.toPhase ph).params = s.params := rfl

@[simp] theorem State.toPhase_busy (s : State) (ph : Phase) :
    (s.toPhase ph).busy = s.busy := rfl

@[simp] theorem State.toPhase_result (s : State) (ph : Phase) :
    (s.toPhase ph).result = s.result := rfl

@[simp] theorem State.toPhase_rdata (s : State) (ph : Phase) :
    (s.toPhase ph).rdata = s.rdata := rfl

@[simp] theorem State.toPhase_acc (s : State) (ph : Phase) :
    (s.toPhase ph).acc = s.acc := rfl

@[simp] theorem State.toPhase_phase (s : State) (ph : Phase) :
    (s.toPhase ph).phase = ph := rfl

@[simp] theorem State.toPhase_txt (s : State) (ph : Phase) :
    (s.toPhase ph).txt = s.txt := rfl

@[simp] theorem State.toPhase_pos (s : State) (ph : Phase) :
    (s.toPhase ph).pos = s.pos := rfl

@[simp] theorem State.toPhase_lastWS (s : State) (ph : Phase) :
    (s.toPhase ph).lastWS = s.lastWS := rfl

@[simp] theorem State.toPhase_pendGap (s : State) (ph : Phase) :
    (s.toPhase ph).pendGap = s.pendGap := rfl

@[simp] theorem State.toPhase_code (s : State) (ph : Phase) :
    (s.toPhase ph).code = s.code := rfl

@[simp] theorem State.toPhase_sym (s : State) (ph : Phase) :
    (s.toPhase ph).sym = s.sym := rfl

@[simp] theorem State.toPhase_dev (s : State) (ph : Phase) :
    (s.toPhase ph).dev = s.dev := rfl

@[simp] theorem State.toPhase_handle (s : State) (ph : Phase) :
    (s.toPhase ph).handle = s.handle := rfl

@[simp] theorem State.toPhase_port (s : State) (ph : Phase) :
    (s.toPhase ph).port = s.port := rfl

@[simp] theorem State.toPhase_answers (s : State) (ph : Phase) :
    (s.toPhase ph).answers = s.answers := rfl

@[simp] theorem State.toPhase_calls (s : State) (ph : Phase) :
    (s.toPhase ph).calls = s.calls := rfl

@[simp] theorem State.toPhase_trace (s : State) (ph : Phase) :
    (s.toPhase ph).trace = s.trace := rfl

/-! ## `State.endWith` -/

@[simp] theorem State.endWith_params (s : State) (x : Result) :
    (s.endWith x).params = s.params := rfl

@[simp] theorem State.endWith_busy (s : State) (x : Result) :
    (s.endWith x).busy = false := rfl

@[simp] theorem State.endWith_result (s : State) (x : Result) :
    (s.endWith x).result = x := rfl

@[simp] theorem State.endWith_rdata (s : State) (x : Result) :
    (s.endWith x).rdata = s.rdata := rfl

@[simp] theorem State.endWith_acc (s : State) (x : Result) :
    (s.endWith x).acc = s.acc := rfl

@[simp] theorem State.endWith_phase (s : State) (x : Result) :
    (s.endWith x).phase = .idle := rfl

@[simp] theorem State.endWith_txt (s : State) (x : Result) :
    (s.endWith x).txt = s.txt := rfl

@[simp] theorem State.endWith_pos (s : State) (x : Result) :
    (s.endWith x).pos = s.pos := rfl

@[simp] theorem State.endWith_lastWS (s : State) (x : Result) :
    (s.endWith x).lastWS = s.lastWS := rfl

@[simp] theorem State.endWith_pendGap (s : State) (x : Result) :
    (s.endWith x).pendGap = s.pendGap := rfl

@[simp] theorem State.endWith_code (s : State) (x : Result) :
    (s.endWith x).code = s.code := rfl

@[simp] theorem State.endWith_sym (s : State) (x : Result) :
    (s.endWith x).sym = s.sym := rfl

@[simp] theorem State.endWith_dev (s : State) (x : Result) :
    (s.endWith x).dev = s.dev := rfl

@[simp] theorem State.endWith_handle (s : State) (x : Result) :
    (s.endWith x).handle = s.handle := rfl

@[simp] theorem State.endWith_port (s : State) (x : Result) :
    (s.endWith x).port = s.port := rfl

@[simp] theorem State.endWith_answers (s : State) (x : Result) :
    (s.endWith x).answers = s.answers := rfl

@[simp] theorem State.endWith_calls (s : State) (x : Result) :
    (s.endWith x).calls = s.calls := rfl

@[simp] theorem State.endWith_trace (s : State) (x : Result) :
    (s.endWith x).trace = s.trace := rfl

/-! ## `State.acceptMorse` -/

@[simp] theorem State.acceptMorse_params (s : State) (text : List Byte) :
    (s.acceptMorse text).params = s.params := rfl

@[simp] theorem State.acceptMorse_busy (s : State) (text : List Byte) :
    (s.acceptMorse text).busy = true := rfl

@[simp] theorem State.acceptMorse_result (s : State) (text : List Byte) :
    (s.acceptMorse text).result = .none := rfl

@[simp] theorem State.acceptMorse_rdata (s : State) (text : List Byte) :
    (s.acceptMorse text).rdata = s.rdata := rfl

@[simp] theorem State.acceptMorse_acc (s : State) (text : List Byte) :
    (s.acceptMorse text).acc = s.acc := rfl

@[simp] theorem State.acceptMorse_phase (s : State) (text : List Byte) :
    (s.acceptMorse text).phase = .precheck := rfl

@[simp] theorem State.acceptMorse_txt (s : State) (text : List Byte) :
    (s.acceptMorse text).txt = text := rfl

@[simp] theorem State.acceptMorse_pos (s : State) (text : List Byte) :
    (s.acceptMorse text).pos = 0 := rfl

@[simp] theorem State.acceptMorse_lastWS (s : State) (text : List Byte) :
    (s.acceptMorse text).lastWS = true := rfl

@[simp] theorem State.acceptMorse_pendGap (s : State) (text : List Byte) :
    (s.acceptMorse text).pendGap = false := rfl

@[simp] theorem State.acceptMorse_code (s : State) (text : List Byte) :
    (s.acceptMorse text).code = [] := rfl

@[simp] theorem State.acceptMorse_sym (s : State) (text : List Byte) :
    (s.acceptMorse text).sym = 0 := rfl

@[simp] theorem State.acceptMorse_dev (s : State) (text : List Byte) :
    (s.acceptMorse text).dev = s.dev := rfl

@[simp] theorem State.acceptMorse_handle (s : State) (text : List Byte) :
    (s.acceptMorse text).handle = s.handle := rfl

@[simp] theorem State.acceptMorse_port (s : State) (text : List Byte) :
    (s.acceptMorse text).port = s.port := rfl

@[simp] theorem State.acceptMorse_answers (s : State) (text : List Byte) :
    (s.acceptMorse text).answers = s.answers := rfl

@[simp] theorem State.acceptMorse_calls (s : State) (text : List Byte) :
    (s.acceptMorse text).calls = s.calls := rfl

@[simp] theorem State.acceptMorse_trace (s : State) (text : List Byte) :
    (s.acceptMorse text).trace = s.trace := rfl

/-! ## `State.skipByte` -/

@[simp] theorem State.skipByte_params (s : State) :
    (s.skipByte).params = s.params := rfl

@[simp] theorem State.skipByte_busy (s : State) :
    (s.skipByte).busy = s.busy := rfl

@[simp] theorem State.skipByte_result (s : State) :
    (s.skipByte).result = s.result := rfl

@[simp] theorem State.skipByte_rdata (s : State) :
    (s.skipByte).rdata = s.rdata := rfl

@[simp] theorem State.skipByte_acc (s : State) :
    (s.skipByte).acc = s.acc := rfl

@[simp] theorem State.skipByte_phase (s : State) :
    (s.skipByte).phase = s.phase := rfl

@[simp] theorem State.skipByte_txt (s : State) :
    (s.skipByte).txt = s.txt := rfl

@[simp] theorem State.skipByte_pos (s : State) :
    (s.skipByte).pos = s.pos + 1 := rfl

@[simp] theorem State.skipByte_lastWS (s : State) :
    (s.skipByte).lastWS = s.lastWS := rfl

@[simp] theorem State.skipByte_pendGap (s : State) :
    (s.skipByte).pendGap = s.pendGap := rfl

@[simp] theorem State.skipByte_code (s : State) :
    (s.skipByte).code = s.code := rfl

@[simp] theorem State.skipByte_sym (s : State) :
    (s.skipByte).sym = s.sym := rfl

@[simp] theorem State.skipByte_dev (s : State) :
    (s.skipByte).dev = s.dev := rfl

@[simp] theorem State.skipByte_handle (s : State) :
    (s.skipByte).handle = s.handle := rfl

@[simp] theorem State.skipByte_port (s : State) :
    (s.skipByte).port = s.port := rfl

@[simp] theorem State.skipByte_answers (s : State) :
    (s.skipByte).answers = s.answers := rfl

@[simp] theorem State.skipByte_calls (s : State) :
    (s.skipByte).calls = s.calls := rfl

@[simp] theorem State.skipByte_trace (s : State) :
    (s.skipByte).trace = s.trace := rfl

/-! ## `State.runCharGap` -/

@[simp] theorem State.runCharGap_params (s : State) :
    (s.runCharGap).params = s.params := rfl

@[simp] theorem State.runCharGap_busy (s : State) :
    (s.runCharGap).busy = s.busy := rfl

@[simp] theorem State.runCharGap_result (s : State) :
    (s.runCharGap).result = s.result := rfl

@[simp] theorem State.runCharGap_rdata (s : State) :
    (s.runCharGap).rdata = s.rdata := rfl

@[simp] theorem State.runCharGap_acc (s : State) :
    (s.runCharGap).acc = s.acc := rfl

@[simp] theorem State.runCharGap_phase (s : State) :
    (s.runCharGap).phase = .fetch := rfl

@[simp] theorem State.runCharGap_txt (s : State) :
    (s.runCharGap).txt = s.txt := rfl

@[simp] theorem State.runCharGap_pos (s : State) :
    (s.runCharGap).pos = s.pos := rfl

@[simp] theorem State.runCharGap_lastWS (s : State) :
    (s.runCharGap).lastWS = s.lastWS := rfl

@[simp] theorem State.runCharGap_pendGap (s : State) :
    (s.runCharGap).pendGap = false := rfl

@[simp] theorem State.runCharGap_code (s : State) :
    (s.runCharGap).code = s.code := rfl

@[simp] theorem State.runCharGap_sym (s : State) :
    (s.runCharGap).sym = s.sym := rfl

@[simp] theorem State.runCharGap_dev (s : State) :
    (s.runCharGap).dev = s.dev := rfl

@[simp] theorem State.runCharGap_handle (s : State) :
    (s.runCharGap).handle = s.handle := rfl

@[simp] theorem State.runCharGap_port (s : State) :
    (s.runCharGap).port = s.port := rfl

@[simp] theorem State.runCharGap_answers (s : State) :
    (s.runCharGap).answers = s.answers := rfl

@[simp] theorem State.runCharGap_calls (s : State) :
    (s.runCharGap).calls = s.calls := rfl

@[simp] theorem State.runCharGap_trace (s : State) :
    (s.runCharGap).trace = s.trace ++ [.delay charGapUnits] := rfl

/-! ## `State.runWordGap` -/

@[simp] theorem State.runWordGap_params (s : State) :
    (s.runWordGap).params = s.params := rfl

@[simp] theorem State.runWordGap_busy (s : State) :
    (s.runWordGap).busy = s.busy := rfl

@[simp] theorem State.runWordGap_result (s : State) :
    (s.runWordGap).result = s.result := rfl

@[simp] theorem State.runWordGap_rdata (s : State) :
    (s.runWordGap).rdata = s.rdata := rfl

@[simp] theorem State.runWordGap_acc (s : State) :
    (s.runWordGap).acc = s.acc := rfl

@[simp] theorem State.runWordGap_phase (s : State) :
    (s.runWordGap).phase = .fetch := rfl

@[simp] theorem State.runWordGap_txt (s : State) :
    (s.runWordGap).txt = s.txt := rfl

@[simp] theorem State.runWordGap_pos (s : State) :
    (s.runWordGap).pos = s.pos + 1 := rfl

@[simp] theorem State.runWordGap_lastWS (s : State) :
    (s.runWordGap).lastWS = true := rfl

@[simp] theorem State.runWordGap_pendGap (s : State) :
    (s.runWordGap).pendGap = false := rfl

@[simp] theorem State.runWordGap_code (s : State) :
    (s.runWordGap).code = s.code := rfl

@[simp] theorem State.runWordGap_sym (s : State) :
    (s.runWordGap).sym = s.sym := rfl

@[simp] theorem State.runWordGap_dev (s : State) :
    (s.runWordGap).dev = s.dev := rfl

@[simp] theorem State.runWordGap_handle (s : State) :
    (s.runWordGap).handle = s.handle := rfl

@[simp] theorem State.runWordGap_port (s : State) :
    (s.runWordGap).port = s.port := rfl

@[simp] theorem State.runWordGap_answers (s : State) :
    (s.runWordGap).answers = s.answers := rfl

@[simp] theorem State.runWordGap_calls (s : State) :
    (s.runWordGap).calls = s.calls := rfl

@[simp] theorem State.runWordGap_trace (s : State) :
    (s.runWordGap).trace = s.trace ++ [.echo 0x20#8] ++ [.delay wordGapUnits] := rfl

/-! ## `State.runCharStart` -/

@[simp] theorem State.runCharStart_params (s : State) (c : Byte) (code : List Symbol) :
    (s.runCharStart c code).params = s.params := rfl

@[simp] theorem State.runCharStart_busy (s : State) (c : Byte) (code : List Symbol) :
    (s.runCharStart c code).busy = s.busy := rfl

@[simp] theorem State.runCharStart_result (s : State) (c : Byte) (code : List Symbol) :
    (s.runCharStart c code).result = s.result := rfl

@[simp] theorem State.runCharStart_rdata (s : State) (c : Byte) (code : List Symbol) :
    (s.runCharStart c code).rdata = s.rdata := rfl

@[simp] theorem State.runCharStart_acc (s : State) (c : Byte) (code : List Symbol) :
    (s.runCharStart c code).acc = s.acc := rfl

@[simp] theorem State.runCharStart_phase (s : State) (c : Byte) (code : List Symbol) :
    (s.runCharStart c code).phase = .symOn := rfl

@[simp] theorem State.runCharStart_txt (s : State) (c : Byte) (code : List Symbol) :
    (s.runCharStart c code).txt = s.txt := rfl

@[simp] theorem State.runCharStart_pos (s : State) (c : Byte) (code : List Symbol) :
    (s.runCharStart c code).pos = s.pos := rfl

@[simp] theorem State.runCharStart_lastWS (s : State) (c : Byte) (code : List Symbol) :
    (s.runCharStart c code).lastWS = false := rfl

@[simp] theorem State.runCharStart_pendGap (s : State) (c : Byte) (code : List Symbol) :
    (s.runCharStart c code).pendGap = s.pendGap := rfl

@[simp] theorem State.runCharStart_code (s : State) (c : Byte) (code : List Symbol) :
    (s.runCharStart c code).code = code := rfl

@[simp] theorem State.runCharStart_sym (s : State) (c : Byte) (code : List Symbol) :
    (s.runCharStart c code).sym = 0 := rfl

@[simp] theorem State.runCharStart_dev (s : State) (c : Byte) (code : List Symbol) :
    (s.runCharStart c code).dev = s.dev := rfl

@[simp] theorem State.runCharStart_handle (s : State) (c : Byte) (code : List Symbol) :
    (s.runCharStart c code).handle = s.handle := rfl

@[simp] theorem State.runCharStart_port (s : State) (c : Byte) (code : List Symbol) :
    (s.runCharStart c code).port = s.port := rfl

@[simp] theorem State.runCharStart_answers (s : State) (c : Byte) (code : List Symbol) :
    (s.runCharStart c code).answers = s.answers := rfl

@[simp] theorem State.runCharStart_calls (s : State) (c : Byte) (code : List Symbol) :
    (s.runCharStart c code).calls = s.calls := rfl

@[simp] theorem State.runCharStart_trace (s : State) (c : Byte) (code : List Symbol) :
    (s.runCharStart c code).trace = s.trace ++ [.echo c] := rfl

/-! ## `State.runSymHold` -/

@[simp] theorem State.runSymHold_params (s : State) (x : Symbol) :
    (s.runSymHold x).params = s.params := rfl

@[simp] theorem State.runSymHold_busy (s : State) (x : Symbol) :
    (s.runSymHold x).busy = s.busy := rfl

@[simp] theorem State.runSymHold_result (s : State) (x : Symbol) :
    (s.runSymHold x).result = s.result := rfl

@[simp] theorem State.runSymHold_rdata (s : State) (x : Symbol) :
    (s.runSymHold x).rdata = s.rdata := rfl

@[simp] theorem State.runSymHold_acc (s : State) (x : Symbol) :
    (s.runSymHold x).acc = s.acc := rfl

@[simp] theorem State.runSymHold_phase (s : State) (x : Symbol) :
    (s.runSymHold x).phase = .symOff := rfl

@[simp] theorem State.runSymHold_txt (s : State) (x : Symbol) :
    (s.runSymHold x).txt = s.txt := rfl

@[simp] theorem State.runSymHold_pos (s : State) (x : Symbol) :
    (s.runSymHold x).pos = s.pos := rfl

@[simp] theorem State.runSymHold_lastWS (s : State) (x : Symbol) :
    (s.runSymHold x).lastWS = s.lastWS := rfl

@[simp] theorem State.runSymHold_pendGap (s : State) (x : Symbol) :
    (s.runSymHold x).pendGap = s.pendGap := rfl

@[simp] theorem State.runSymHold_code (s : State) (x : Symbol) :
    (s.runSymHold x).code = s.code := rfl

@[simp] theorem State.runSymHold_sym (s : State) (x : Symbol) :
    (s.runSymHold x).sym = s.sym := rfl

@[simp] theorem State.runSymHold_dev (s : State) (x : Symbol) :
    (s.runSymHold x).dev = s.dev := rfl

@[simp] theorem State.runSymHold_handle (s : State) (x : Symbol) :
    (s.runSymHold x).handle = s.handle := rfl

@[simp] theorem State.runSymHold_port (s : State) (x : Symbol) :
    (s.runSymHold x).port = s.port := rfl

@[simp] theorem State.runSymHold_answers (s : State) (x : Symbol) :
    (s.runSymHold x).answers = s.answers := rfl

@[simp] theorem State.runSymHold_calls (s : State) (x : Symbol) :
    (s.runSymHold x).calls = s.calls := rfl

@[simp] theorem State.runSymHold_trace (s : State) (x : Symbol) :
    (s.runSymHold x).trace = s.trace ++ [.delay (holdUnits x)] := rfl

end Sys2Proof.Machine
end

