-- ==== Sys2Proof/Laws/Ops.lean ====
section
/-! SUPPORT. One lemma for each shared operation that says once what it can do. -/

namespace Sys2Proof.Machine

/-! ## Calls -/

/-- When a call succeeds (20_memory.md R50, R51; 70_reset_and_hazards.md R229). -/
theorem State.good_iff (s : State) (r : Request) :
    s.good r = true ↔ s.handle = true ∧
      ∃ ms draw, s.nextAnswer = .ok ms r.expectedLen draw ∧ ms ≤ timeoutMs := by
  unfold State.good State.reply
  cases hh : s.handle <;> cases ha : s.nextAnswer with
  | iofail => simp [Reply.good]
  | ok ms k draw =>
    by_cases hm : ms ≤ timeoutMs
    · simp [hm, Reply.good]
    · simp only [hm, if_false, Reply.good]
      simp only [Answer.ok.injEq]
      grind

/-- The reply to a call that succeeds. -/
theorem State.reply_of_good {s : State} {r : Request} (h : s.good r = true) :
    ∃ ms draw, s.nextAnswer = .ok ms r.expectedLen draw ∧
      s.reply r = .ok r.expectedLen (s.received r r.expectedLen draw) := by
  obtain ⟨hh, ms, draw, ha, hm⟩ := (s.good_iff r).1 h
  exact ⟨ms, draw, ha, by simp [State.reply, hh, ha, hm]⟩

/-- The reply to a write that succeeds carries no data. -/
theorem State.reply_ctrlOut {s : State} {b : Byte} {v i : Half} {p : List Byte}
    (h : s.good (.ctrlOut b v i p) = true) : s.reply (.ctrlOut b v i p) = .ok p.length [] := by
  obtain ⟨ms, draw, -, hr⟩ := State.reply_of_good h
  exact hr

/-- The reply to a bulk write that succeeds carries no data. -/
theorem State.reply_bulkOut {s : State} {e : Byte} {bs : List Byte}
    (h : s.good (.bulkOut e bs) = true) : s.reply (.bulkOut e bs) = .ok bs.length [] := by
  obtain ⟨ms, draw, -, hr⟩ := State.reply_of_good h
  exact hr

/-- The reply to a read that succeeds carries the word read back. -/
theorem State.reply_ctrlIn {s : State} {b : Byte} {v i : Half} {n : Nat}
    (h : s.good (.ctrlIn b v i n) = true) :
    s.reply (.ctrlIn b v i n) = .ok n (s.readBack b).toList := by
  obtain ⟨ms, draw, ha, hr⟩ := State.reply_of_good h
  rw [hr]
  simp [State.received, Request.expectedLen, State.readBack, ha]

/-- The accumulator after `Try`: unchanged, or one more entry (60_exceptions.md R203). -/
theorem State.tryCall_acc (s : State) (op : Op) (r : Request) :
    (s.tryCall op r).acc =
      if s.good r then s.acc
      else ⟨s.acc.entries ++ [⟨op, r.ident, Config.freeMsg (s.calls + 1)⟩], s.acc.count + 1⟩ := by
  unfold State.tryCall
  split <;> rfl

@[simp] theorem State.tryCall_params (s : State) (op : Op) (r : Request) :
    (s.tryCall op r).params = (s.issue r).params := by
  unfold State.tryCall; split <;> rfl

@[simp] theorem State.tryCall_busy (s : State) (op : Op) (r : Request) :
    (s.tryCall op r).busy = (s.issue r).busy := by
  unfold State.tryCall; split <;> rfl

@[simp] theorem State.tryCall_result (s : State) (op : Op) (r : Request) :
    (s.tryCall op r).result = (s.issue r).result := by
  unfold State.tryCall; split <;> rfl

@[simp] theorem State.tryCall_rdata (s : State) (op : Op) (r : Request) :
    (s.tryCall op r).rdata = (s.issue r).rdata := by
  unfold State.tryCall; split <;> rfl

@[simp] theorem State.tryCall_phase (s : State) (op : Op) (r : Request) :
    (s.tryCall op r).phase = (s.issue r).phase := by
  unfold State.tryCall; split <;> rfl

@[simp] theorem State.tryCall_txt (s : State) (op : Op) (r : Request) :
    (s.tryCall op r).txt = (s.issue r).txt := by
  unfold State.tryCall; split <;> rfl

@[simp] theorem State.tryCall_pos (s : State) (op : Op) (r : Request) :
    (s.tryCall op r).pos = (s.issue r).pos := by
  unfold State.tryCall; split <;> rfl

@[simp] theorem State.tryCall_lastWS (s : State) (op : Op) (r : Request) :
    (s.tryCall op r).lastWS = (s.issue r).lastWS := by
  unfold State.tryCall; split <;> rfl

@[simp] theorem State.tryCall_pendGap (s : State) (op : Op) (r : Request) :
    (s.tryCall op r).pendGap = (s.issue r).pendGap := by
  unfold State.tryCall; split <;> rfl

@[simp] theorem State.tryCall_code (s : State) (op : Op) (r : Request) :
    (s.tryCall op r).code = (s.issue r).code := by
  unfold State.tryCall; split <;> rfl

@[simp] theorem State.tryCall_sym (s : State) (op : Op) (r : Request) :
    (s.tryCall op r).sym = (s.issue r).sym := by
  unfold State.tryCall; split <;> rfl

@[simp] theorem State.tryCall_dev (s : State) (op : Op) (r : Request) :
    (s.tryCall op r).dev = (s.issue r).dev := by
  unfold State.tryCall; split <;> rfl

@[simp] theorem State.tryCall_handle (s : State) (op : Op) (r : Request) :
    (s.tryCall op r).handle = (s.issue r).handle := by
  unfold State.tryCall; split <;> rfl

@[simp] theorem State.tryCall_port (s : State) (op : Op) (r : Request) :
    (s.tryCall op r).port = (s.issue r).port := by
  unfold State.tryCall; split <;> rfl

@[simp] theorem State.tryCall_answers (s : State) (op : Op) (r : Request) :
    (s.tryCall op r).answers = (s.issue r).answers := by
  unfold State.tryCall; split <;> rfl

@[simp] theorem State.tryCall_calls (s : State) (op : Op) (r : Request) :
    (s.tryCall op r).calls = (s.issue r).calls := by
  unfold State.tryCall; split <;> rfl

@[simp] theorem State.tryCall_trace (s : State) (op : Op) (r : Request) :
    (s.tryCall op r).trace = (s.issue r).trace := by
  unfold State.tryCall; split <;> rfl

/-- `Exec1` is one transfer and nothing else (41_spi_config.md R100). -/
theorem State.exec1_ran (s : State) (op : Op) (r : Request) :
    ranOneTransfer s (s.exec1 op r) op r (s.rdataAfter r) := by
  unfold State.exec1 State.tryCall
  refine ⟨?_, ?_, ?_⟩
  · split <;> simp_all [State.issue, State.raise]
  · intro h; simp [h]
  · intro h; simp only [h]; exact ⟨_, rfl⟩

/-- The device after `Exec1`. -/
@[simp] theorem State.exec1_dev (s : State) (op : Op) (r : Request) :
    (s.exec1 op r).dev = deviceAfter s.params s.calls r (s.good r) s.dev := by
  simp [State.exec1]

@[simp] theorem State.exec1_rdata (s : State) (op : Op) (r : Request) :
    (s.exec1 op r).rdata = s.rdataAfter r := rfl

/-- What acceptance at the port can answer (30_encoding.md R88). -/
theorem portCommand_next {fits : Bool} {s t : State} {run : State → State} :
    portCommand fits s run = .next t ↔ s.busy = false ∧ fits = true ∧ t = run s := by
  unfold portCommand
  cases s.busy <;> cases fits <;> simp [eq_comm]

/-- Acceptance when the port is free and the operands fit. -/
theorem portCommand_ready {fits : Bool} {s : State} {run : State → State}
    (hb : s.busy = false) (hf : fits = true) : portCommand fits s run = .next (run s) := by
  simp [portCommand, hb, hf]

/-- A one-transfer command when the port is free and the operands fit. -/
theorem portExec1_ready {fits : Bool} {op : Op} {r : Request} {s : State}
    (hb : s.busy = false) (hf : fits = true) : portExec1 fits op r s = .next (s.exec1 op r) :=
  portCommand_ready hb hf

/-- What a micro-operation can answer. -/
theorem whenDue_next {due : Bool} {t u : State} : whenDue due t = .next u ↔ due = true ∧ u = t := by
  unfold whenDue
  cases due <;> simp [eq_comm]

/-- Every one-transfer instruction is acceptance and then `Exec1` of its own request. -/
theorem exec_of_request {i : Instr} {s : State} {r : Request} (h : i.request s.params = some r) :
    ∃ op, instrOp i = some op ∧ exec i s = portExec1 i.wf op r s := by
  cases i <;> simp only [Instr.request, Option.some.injEq, reduceCtorEq] at h <;> subst h <;>
    exact ⟨_, rfl, rfl⟩

/-! ## The device -/

/-- Where the spec gives no effect, a locked OTP stays locked (10_state.md R35). -/
theorem anyDevice_otp_locked {f d : Device} (h : d.otp = ⟨0#8, 0#8⟩) :
    (anyDevice f d).otp = ⟨0#8, 0#8⟩ := by
  simp [anyDevice, allButOtp, h]

/-- A locked OTP stays locked, whatever the transfer (10_state.md R35). -/
theorem deviceAfter_otp_locked {p : Params} {n : Nat} {r : Request} {good : Bool} {d : Device}
    (h : d.otp = ⟨0#8, 0#8⟩) : (deviceAfter p n r good d).otp = ⟨0#8, 0#8⟩ := by
  cases r with
  | ctrlIn =>
    simp only [deviceAfter]
    split
    · exact h
    · exact anyDevice_otp_locked h
  | ctrlOut b v i payload =>
    simp only [deviceAfter, ctrlOutEffect]
    repeat' split
    all_goals first
      | exact anyDevice_otp_locked h
      | simpa [allButOtp, gpioWrite] using h
      | (unfold csSelectWrite; split <;> simpa using h)
      | (unfold csDisableWrite; split <;> simpa using h)
      | (unfold spiModeWrite; split <;> first | exact anyDevice_otp_locked h | simpa using h)
      | (unfold delayDisableWrite; split <;> first | exact anyDevice_otp_locked h | simpa using h)
      | (unfold otpLockWrite; repeat' split
         all_goals simp_all)
  | bulkOut e bytes =>
    simp only [deviceAfter]
    split
    · split
      · unfold bulkDelivered; split <;> simpa using h
      · unfold bulkFailed; split <;> simpa using h
    · exact anyDevice_otp_locked h

/-! ## The code table -/

theorem tableLookup_mem {t : List (Byte × List Symbol)} {b : Byte} {c : List Symbol}
    (h : tableLookup t b = some c) : (b, c) ∈ t := by
  unfold tableLookup at h
  obtain ⟨e, he, hc⟩ := Option.map_eq_some_iff.1 h
  have hb : e.1 = b := by simpa using List.find?_some he
  rw [← hb, ← hc]
  exact List.mem_of_find?_eq_some he

/-- Every code is non-empty and no key is in WS_SET (45_morse.md R160, R162). -/
theorem tableCode_spec {p : Params} {b : Byte} {c : List Symbol} (h : tableCode p b = some c) :
    c ≠ [] ∧ isWs b = false := by
  rcases hl : tableLookup letterDigitTable b with _ | c'
  · rw [tableCode, hl, Option.none_or, punctCode] at h
    split at h
    case isTrue hk =>
      obtain ⟨-, hc⟩ := Option.filter_eq_some_iff.1 h
      exact ⟨by simpa using hc, by simp_all [punctKey]⟩
    case isFalse => cases h
  · rw [tableCode, hl, Option.some_or] at h
    cases h
    have hall : ∀ e ∈ letterDigitTable, e.2 ≠ [] ∧ isWs e.1 = false := by decide
    exact hall _ (tableLookup_mem hl)

/-! ## The step -/

/-- What one step does: it runs the instruction presented, or the sequencer goes on. -/
theorem step_next_cases {s t : State} (h : step s = .next t) :
    (∃ q rest i, s.port = q :: rest ∧ presentedNow s q = true ∧ portInstr s.params q.item = .ok i ∧
      exec i { s with port := rest } = .next t) ∨
    sequencerStep s = .next t := by
  unfold step at h
  split at h
  · exact .inr h
  · rename_i q rest hp
    split at h
    · rename_i hq
      split at h
      · rename_i i hi
        exact .inl ⟨q, rest, i, hp, hq, hi, h⟩
      · cases h
    · exact .inr h

/-- What the sequencer can do (45_morse.md R176 to R187). -/
theorem sequencerStep_next_cases {s t : State} (h : sequencerStep s = .next t) :
    (s.phase = .idle ∧ t = s) ∨
    (s.phase = .precheck ∧ t = s.runPrecheck) ∨
    (s.phase = .fetch ∧ s.currentClass = none ∧ s.pos = s.txt.length ∧ s.pendGap = true ∧
      t = s.toPhase .charGap) ∨
    (s.phase = .fetch ∧ s.currentClass = none ∧ s.pos = s.txt.length ∧ s.pendGap = false ∧
      t = s.endWith .ok) ∨
    (s.phase = .fetch ∧ s.currentClass = some .ws ∧ s.lastWS = true ∧ t = s.skipByte) ∨
    (s.phase = .fetch ∧ s.currentClass = some .ws ∧ s.lastWS = false ∧ t = s.toPhase .wordGap) ∨
    (s.phase = .fetch ∧ s.currentClass = some .mapped ∧ s.pendGap = true ∧ t = s.toPhase .charGap) ∨
    (s.phase = .fetch ∧ s.currentClass = some .mapped ∧ s.pendGap = false ∧
      t = s.toPhase .charStart) ∨
    (s.phase = .fetch ∧ s.currentClass = some .unmapped ∧ t = s.skipByte) ∨
    (s.phase = .charGap ∧ t = s.runCharGap) ∨
    (s.phase = .wordGap ∧ t = s.runWordGap) ∨
    (s.phase = .charStart ∧ ∃ c code, s.current = some c ∧ tableCode s.params (fold c) = some code ∧
      t = s.runCharStart c code) ∨
    (s.phase = .symOn ∧ t = s.runSymOn) ∨
    (s.phase = .symHold ∧ ∃ x, s.code[s.sym]? = some x ∧ t = s.runSymHold x) ∨
    (s.phase = .symOff ∧ t = s.runSymOff) ∨
    (s.phase = .symGap ∧ t = s.runSymGap) := by
  unfold sequencerStep at h
  cases hp : s.phase with
  | fetch =>
    simp only [hp, fetchStep] at h
    rcases hc : s.currentClass with _ | k
    · simp only [hc, execSeqEnd] at h
      split at h
      · split at h <;> simp_all [whenDue]
      · cases h
    · cases k <;> simp only [hc, execSeqSkipWs, execSeqSkipUnmapped] at h
      · split at h <;> simp_all [whenDue]
      · split at h <;> simp_all
      · simp_all [whenDue]
  | charStart =>
    simp only [hp, execSeqCharStart, if_true] at h
    split at h
    · rename_i c code hcode
      cases h
      obtain ⟨c', h1, h2⟩ := Option.bind_eq_some_iff.1 hcode
      obtain ⟨code', h3, h4⟩ := Option.map_eq_some_iff.1 h2
      cases h4
      simp [h1, h3]
    · cases h
  | symHold =>
    simp only [hp] at h
    split at h <;> simp_all
  | _ => simp_all [execSeqPrecheck, execSeqCharGap, execSeqWordGap, whenDue]

end Sys2Proof.Machine
end

