-- ==== Sys2Proof/Laws/Words.lean ====
section
/-! SUPPORT. Bit fields of words put together from a tag and a value. -/

namespace Sys2Proof

/-- The low part of a concatenation. -/
theorem extract_append_low {n m : Nat} (x : BitVec n) (y : BitVec m) :
    (x ++ y).extractLsb' 0 m = y := by
  apply BitVec.eq_of_getLsbD_eq
  intro i hi
  rw [BitVec.getLsbD_extractLsb', BitVec.getLsbD_append]
  simp [hi]

/-- The high part of a concatenation. -/
theorem extract_append_high {n m : Nat} (x : BitVec n) (y : BitVec m) :
    (x ++ y).extractLsb' m n = x := by
  apply BitVec.eq_of_getLsbD_eq
  intro i hi
  rw [BitVec.getLsbD_extractLsb', BitVec.getLsbD_append]
  simp [hi]

/-- A word is the concatenation of its two parts. -/
theorem append_extract {n m : Nat} (v : BitVec (n + m)) :
    v.extractLsb' m n ++ v.extractLsb' 0 m = v := by
  apply BitVec.eq_of_getLsbD_eq
  intro i hi
  rw [BitVec.getLsbD_append]
  by_cases h : i < m
  · simp only [h, if_true, BitVec.getLsbD_extractLsb']; simp
  · simp only [h, if_false, BitVec.getLsbD_extractLsb', decide_eq_true (show i - m < n by omega),
      Bool.true_and, show m + (i - m) = i by omega]

/-- A word is its two bytes, high byte first. -/
theorem hi8_append_lo8 (w : Half) : hi8 w ++ lo8 w = w := append_extract (n := 8) (m := 8) w

/-- The tag bits of a frequency word in its high byte. -/
theorem hi8_tag2 (t : BitVec 2) (x : BitVec 14) : hi8 (t ++ x : Half) &&& 0xC0#8 = (t ++ 0#6 : Byte) := by
  apply BitVec.eq_of_getLsbD_eq
  intro i hi
  unfold hi8
  rw [BitVec.getLsbD_and, BitVec.getLsbD_extractLsb', BitVec.getLsbD_append, BitVec.getLsbD_append]
  interval_cases i <;> simp

/-- The tag bits of a phase word in its high byte. -/
theorem hi8_tag4 (t : BitVec 4) (x : BitVec 12) : hi8 (t ++ x : Half) &&& 0xF0#8 = (t ++ 0#4 : Byte) := by
  apply BitVec.eq_of_getLsbD_eq
  intro i hi
  unfold hi8
  rw [BitVec.getLsbD_and, BitVec.getLsbD_extractLsb', BitVec.getLsbD_append, BitVec.getLsbD_append]
  interval_cases i <;> simp

/-- The amplitude word as a number (44_dds.md R142: the mask removes no bit). -/
theorem ampWord_toNat (sh : AmpShift) (v : Nat) (h : v < 2 ^ 10) :
    (ampWord sh v).toNat = v * 2 ^ sh.places := by
  have h2 : 4095 = 2 ^ 12 - 1 := rfl
  cases sh <;>
    simp only [ampWord, AmpShift.places, BitVec.toNat_and, BitVec.toNat_shiftLeft, Nat.shiftLeft_eq,
      BitVec.toNat_ofNat, show (0x0FFF % 2 ^ 16) = 2 ^ 12 - 1 from rfl,
      Nat.and_two_pow_sub_one_eq_mod] <;> omega

/-- `w[15:12]` of an amplitude word is 0 (30_encoding.md R91). -/
theorem ampWord_top (sh : AmpShift) (v : Nat) (h : v < 2 ^ 10) :
    (ampWord sh v).extractLsb' 12 4 = 0#4 := by
  apply BitVec.eq_of_toNat_eq
  rw [BitVec.extractLsb'_toNat, ampWord_toNat sh v h]
  cases sh <;> simp only [AmpShift.places, Nat.shiftRight_eq_div_pow, BitVec.toNat_ofNat] <;> omega

/-- An amplitude word is read back as its amplitude (30_encoding.md R96). -/
theorem ampValue_ampWord (sh : AmpShift) (v : Nat) (h : v < 2 ^ 10) :
    ampValue? sh (ampWord sh v) = some v := by
  unfold ampValue?
  rw [ampWord_toNat sh v h]
  have hp : 0 < 2 ^ sh.places := by cases sh <;> decide
  rcases Nat.eq_zero_or_pos v with rfl | hv
  · simp
  · rw [if_neg (Nat.mul_pos hv hp).ne', Nat.mul_mod_left, Nat.mul_div_cancel _ hp, if_pos ⟨rfl, h⟩]

end Sys2Proof
end

