-- ==== Sys2Proof/Laws/Device.lean ====
section
/-! SUPPORT. What the request of each command does at the device: one lemma for each, so that no later
proof unfolds how a request is recognised. -/

namespace Sys2Proof.Machine

variable {p : Params} {n : Nat} {good : Bool} {d : Device}

/-! ## Control requests -/

theorem deviceAfter_gpioGet : deviceAfter p n gpioGetRequest good d = d := rfl

theorem deviceAfter_otpQuery : deviceAfter p n otpQueryRequest good d = d := rfl

theorem deviceAfter_spiMode (ch : Nat) {cpol cpha : Nat} (h1 : cpol < 2) (h2 : cpha < 2) :
    deviceAfter p n (spiModeRequest ch cpol cpha) good d =
      spiModeWrite good (Config.freeDevice n 0) d (BitVec.ofNat 8 ch) (spiModeWord cpol cpha) := by
  interval_cases cpol <;> interval_cases cpha <;> rfl

theorem deviceAfter_csSelect (ch : Nat) :
    deviceAfter p n (csSelectRequest ch) good d =
      csSelectWrite good (Config.freeDevice n 0) d (BitVec.ofNat 8 ch) := rfl

theorem deviceAfter_csDisable (ch : Nat) :
    deviceAfter p n (csDisableRequest ch) good d =
      csDisableWrite good (Config.freeDevice n 0) d (BitVec.ofNat 8 ch) := rfl

theorem deviceAfter_delayDisable (ch : Nat) :
    deviceAfter p n (delayDisableRequest ch) good d =
      delayDisableWrite good (Config.freeDevice n 0) d (BitVec.ofNat 8 ch) := rfl

theorem deviceAfter_gpioSet (pin : Pin) {level : Nat} (h : level < 2) :
    deviceAfter p n (gpioSetRequest pin level) good d =
      gpioWrite good (Config.freeDevice n 0) d (gpioData pin level) (gpioMask pin) := by
  cases pin <;> interval_cases level <;> rfl

theorem deviceAfter_otpLock :
    deviceAfter p n (otpLockRequest p.otpLockWValue) good d =
      otpLockWrite good (Config.freeDevice n 0) d := by
  simp [otpLockRequest, deviceAfter, issuedWValue, ctrlOutEffect]

theorem deviceAfter_reset :
    deviceAfter p n resetRequest good d = allButOtp (Config.freeDevice n 0) d := rfl

/-! ## Bulk requests -/

/-- The words of a payload are the words it was made of. -/
theorem spiWords_be16 (ws : List Half) : spiWords (ws.flatMap be16) = ws := by
  induction ws with
  | nil => rfl
  | cons w ws ih =>
    simp only [List.flatMap_cons, be16, List.cons_append, List.nil_append, spiWords, ih, hi8_append_lo8]

/-- A payload of words the block can issue, in its envelope: delivered whole, or failed. -/
theorem deviceAfter_bulkWrite {ws : List Half} (h : issuedWords ws = true) :
    deviceAfter p n (bulkWrite (ws.flatMap be16)) good d =
      if good then bulkDelivered p (Config.freeDevice n) d ws
      else bulkFailed p (Config.freeDevice n 0) d ws := by
  have hd : (envelope (ws.flatMap be16)).drop 8 = ws.flatMap be16 := rfl
  simp [bulkWrite, deviceAfter, issuedBulk, hd, spiWords_be16, h]

theorem freqWord_issued (reg : FreqReg) (v : BitVec 28) :
    issuedWords [freqWordLow reg v, freqWordHigh reg v] = true := by
  have hl : (freqWordLow reg v).extractLsb' 14 2 = reg.tag := extract_append_high _ _
  have hh : (freqWordHigh reg v).extractLsb' 14 2 = reg.tag := extract_append_high _ _
  cases reg <;> simp [issuedWords, hl, hh, FreqReg.tag]

theorem phaseWord_issued (reg : PhaseReg) (v : BitVec 12) : issuedWords [phaseWord reg v] = true := by
  have h : (phaseWord reg v).extractLsb' 12 4 = reg.tag := extract_append_high _ _
  cases reg <;> simp [issuedWords, h, PhaseReg.tag]

theorem deviceAfter_ddsFreq (reg : FreqReg) (v : Nat) :
    deviceAfter p n (ddsFreqRequest reg v) good d =
      if good then
        bulkDelivered p (Config.freeDevice n) d
          [freqWordLow reg (BitVec.ofNat 28 v), freqWordHigh reg (BitVec.ofNat 28 v)]
      else
        bulkFailed p (Config.freeDevice n 0) d
          [freqWordLow reg (BitVec.ofNat 28 v), freqWordHigh reg (BitVec.ofNat 28 v)] := by
  rw [← deviceAfter_bulkWrite (freqWord_issued reg _)]
  simp [ddsFreqRequest]

theorem deviceAfter_ddsPhase (reg : PhaseReg) (v : Nat) :
    deviceAfter p n (ddsPhaseRequest reg v) good d =
      if good then bulkDelivered p (Config.freeDevice n) d [phaseWord reg (BitVec.ofNat 12 v)]
      else bulkFailed p (Config.freeDevice n 0) d [phaseWord reg (BitVec.ofNat 12 v)] := by
  rw [← deviceAfter_bulkWrite (phaseWord_issued reg _)]
  simp [ddsPhaseRequest]

theorem deviceAfter_ddsAmp (sh : AmpShift) {v : Nat} (h : v < 2 ^ 10) :
    deviceAfter p n (ddsAmpRequest sh v) good d =
      if good then bulkDelivered p (Config.freeDevice n) d [ampWord sh v]
      else bulkFailed p (Config.freeDevice n 0) d [ampWord sh v] := by
  rw [← deviceAfter_bulkWrite (by simp [issuedWords, ampWord_top sh v h])]
  simp [ddsAmpRequest]

theorem deviceAfter_ddsShape (shape : Shape) :
    deviceAfter p n (ddsShapeRequest shape) good d =
      if good then bulkDelivered p (Config.freeDevice n) d [shapeWord shape]
      else bulkFailed p (Config.freeDevice n 0) d [shapeWord shape] := by
  rw [← deviceAfter_bulkWrite (by cases shape <;> rfl)]
  simp [ddsShapeRequest]

end Sys2Proof.Machine
end

