-- ==== Sys2Proof/Laws/Step.lean ====
section
/-! SUPPORT. What one step can do, case by case: a command of one transfer, a MORSE command accepted,
or the sequencer; and the cases of the sequencer's larger state changes. -/

namespace Sys2Proof.Machine

/-- What the decoder answers is an instruction of the command port. -/
theorem decode_instrOp {sh : AmpShift} {bs : List Byte} {i : Instr} (h : decode sh bs = .ok i) :
    ∃ op, instrOp i = some op := by
  unfold decode at h
  split at h
  · split at h
    · rename_i row hr
      have hm := List.mem_of_find?_eq_some hr
      split at h
      · rename_i j hj
        cases h
        simp only [rows, gpioRow, List.mem_cons, List.not_mem_nil, or_false] at hm
        rcases hm with rfl | rfl | rfl | rfl | rfl | rfl | rfl | rfl | rfl | rfl | rfl | rfl | rfl |
          rfl | rfl | rfl | rfl | rfl | rfl <;>
          simp only [Option.some.injEq, Option.map_eq_some_iff] at hj <;> first
            | (subst hj; exact ⟨_, rfl⟩)
            | (obtain ⟨_, _, rfl⟩ := hj; exact ⟨_, rfl⟩)
      · cases h
    · cases h
  · cases h

theorem gpioSetInstr_instrOp (pin : Pin) (level : Nat) :
    instrOp (gpioSetInstr pin level) = some .gpioSet := by
  cases pin <;> rfl

theorem gpioSetInstr_request (p : Params) (pin : Pin) (level : Nat) :
    (gpioSetInstr pin level).request p = some (gpioSetRequest pin level) := by
  cases pin <;> rfl

/-- What a record names is an instruction of the command port. -/
theorem commandInstr_instrOp {p : Params} {c : Command} {i : Instr} (h : commandInstr p c = .ok i) :
    ∃ op, instrOp i = some op := by
  cases c <;> simp only [commandInstr, ddsFreqInstr, ddsPhaseInstr] at h
  all_goals (try split at h) <;> cases h <;> first
    | exact ⟨_, rfl⟩
    | exact ⟨_, gpioSetInstr_instrOp _ _⟩

/-- What the block takes from the port is a command, never a micro-operation (30_encoding.md R99). -/
theorem portInstr_instrOp {p : Params} {it : PortItem} {i : Instr} (h : portInstr p it = .ok i) :
    ∃ op, instrOp i = some op := by
  cases it <;> simp only [portInstr] at h
  · exact commandInstr_instrOp h
  · split at h
    · exact commandInstr_instrOp h
    · cases h
  · split at h <;> cases h
    rename_i h; exact decode_instrOp h

/-- What a command can do: run one transfer, or be accepted as MORSE. -/
theorem exec_command_cases {i : Instr} {op : Op} {s t : State} (h : instrOp i = some op)
    (he : exec i s = .next t) :
    s.busy = false ∧ i.wf = true ∧
      ((∃ r, i.request s.params = some r ∧ t = s.exec1 op r) ∨
       (∃ text, i = .morse text ∧ t = s.acceptMorse text)) := by
  cases i <;> simp only [instrOp, reduceCtorEq, Option.some.injEq] at h <;> subst h <;>
   (simp only [exec, execSpiMode, execCsSelect, execCsDisable, execDelayDisable, execGpioGet,
      execGpioSetB0b0, execGpioSetB0b2, execGpioSetB1b5, execGpioSetB1b6, execGpioSetB1b7,
      execOtpQuery, execOtpLock, execReset, execDdsFreq0, execDdsFreq1, execDdsPhase0,
      execDdsPhase1, execDdsAmp, execDdsShape, execMorse, portExec1, portCommand_next] at he
    obtain ⟨h1, h2, h3⟩ := he
    refine ⟨h1, h2, ?_⟩
    first | exact .inl ⟨_, rfl, h3⟩ | exact .inr ⟨_, rfl, h3⟩)

/-- What one step does (41_spi_config.md R100, 45_morse.md R170 and part 3). -/
theorem step_cases {s t : State} (h : step s = .next t) :
    (∃ rest op r i, s.busy = false ∧ i.wf = true ∧ instrOp i = some op ∧
      i.request s.params = some r ∧ t = State.exec1 { s with port := rest } op r) ∨
    (∃ rest text, s.busy = false ∧ t = State.acceptMorse { s with port := rest } text) ∨
    sequencerStep s = .next t := by
  rcases step_next_cases h with ⟨q, rest, i, hp, hq, hi, he⟩ | h
  · obtain ⟨op, hop⟩ := portInstr_instrOp hi
    obtain ⟨h1, hw, ⟨r, hr, ht⟩ | ⟨text, hi, ht⟩⟩ := exec_command_cases hop he
    · exact .inl ⟨rest, op, r, i, h1, hw, hop, hr, ht⟩
    · exact .inr (.inl ⟨rest, text, h1, ht⟩)
  · exact .inr (.inr h)

/-- The four ends of the precheck (45_morse.md R171). -/
theorem State.runPrecheck_cases (s : State) :
    (s.good gpioGetRequest = false ∧
      s.runPrecheck = (s.tryCall .gpioGet gpioGetRequest).endWith .fail) ∨
    (s.good gpioGetRequest = true ∧ genRunning s.params (s.readBack 0x20#8) = false ∧
      s.runPrecheck = (s.tryCall .gpioGet gpioGetRequest).endWith .precondGenOff) ∨
    (s.good gpioGetRequest = true ∧ genRunning s.params (s.readBack 0x20#8) = true ∧
      dacEnabled s.params (s.readBack 0x20#8) = true ∧
      s.runPrecheck = (s.tryCall .gpioGet gpioGetRequest).endWith .precondDacOn) ∨
    (s.good gpioGetRequest = true ∧ genRunning s.params (s.readBack 0x20#8) = true ∧
      dacEnabled s.params (s.readBack 0x20#8) = false ∧
      s.runPrecheck = (s.tryCall .gpioGet gpioGetRequest).toPhase .fetch) := by
  unfold State.runPrecheck
  cases s.good gpioGetRequest <;> cases genRunning s.params (s.readBack 0x20#8) <;>
    cases dacEnabled s.params (s.readBack 0x20#8) <;> simp

/-- The two ends of a DAC-enable write (45_morse.md R184, R186, R188). -/
theorem State.dacWrite_cases (s : State) (r : Request) (next : Phase) :
    (s.good r = true ∧ s.dacWrite r next = (s.tryCall .gpioSet r).toPhase next) ∨
    (s.good r = false ∧ s.dacWrite r next = (s.tryCall .gpioSet r).endWith .fail) := by
  unfold State.dacWrite
  cases s.good r <;> simp

/-- The two ends of a symbol's last gap (45_morse.md R187). -/
theorem State.runSymGap_cases (s : State) :
    (s.sym + 1 < s.code.length ∧
      s.runSymGap = { s.emit (.delay intraGapUnits) with sym := s.sym + 1, phase := .symOn }) ∨
    (s.code.length ≤ s.sym + 1 ∧
      s.runSymGap = { s.emit (.delay intraGapUnits) with
        sym := s.sym + 1, pendGap := true, pos := s.pos + 1, phase := .fetch }) := by
  unfold State.runSymGap
  by_cases h : s.sym + 1 < s.code.length
  · exact .inl ⟨h, by simp [h]⟩
  · exact .inr ⟨by omega, by simp [h]⟩

end Sys2Proof.Machine
end

