-- ==== Sys2Proof/Laws/PerInstr.lean ====
section
/-! SUPPORT. Statements about every instruction as syntax, one lemma for each constructor. -/

namespace Sys2Proof.Laws.ImageSize

/-- An instruction that has an image has one of 8 to 16 bytes: the 8 of the header or the setup, and
at most 8 of payload (20_memory.md R62, 30_encoding.md R94). -/
def Statement (i : Instr) : Prop :=
  ∀ (p : Params) (bs : List Byte), encode p i = some bs → 8 ≤ bs.length ∧ bs.length ≤ 16

/-- A byte string of a known length in the range. -/
theorem of_length {i : Instr} (n : Nat) (h8 : 8 ≤ n) (h16 : n ≤ 16)
    (h : ∀ (p : Params) (bs : List Byte), encode p i = some bs → bs.length = n) : Statement i := by
  intro p bs hb
  rw [h p bs hb]
  exact ⟨h8, h16⟩

theorem spiMode (ch cpol cpha : Nat) : Statement (.spiMode ch cpol cpha) :=
  of_length 10 (by decide) (by decide) fun _ _ h => by cases h; rfl

theorem csSelect (ch : Nat) : Statement (.csSelect ch) :=
  of_length 10 (by decide) (by decide) fun _ _ h => by cases h; rfl

theorem csDisable (ch : Nat) : Statement (.csDisable ch) :=
  of_length 10 (by decide) (by decide) fun _ _ h => by cases h; rfl

theorem delayDisable (ch : Nat) : Statement (.delayDisable ch) :=
  of_length 16 (by decide) (by decide) fun _ _ h => by cases h; rfl

theorem gpioGet : Statement .gpioGet :=
  of_length 8 (by decide) (by decide) fun _ _ h => by cases h; rfl

theorem gpioSetB0b0 (level : Nat) : Statement (.gpioSetB0b0 level) :=
  of_length 12 (by decide) (by decide) fun _ _ h => by cases h; rfl

theorem gpioSetB0b2 (level : Nat) : Statement (.gpioSetB0b2 level) :=
  of_length 12 (by decide) (by decide) fun _ _ h => by cases h; rfl

theorem gpioSetB1b5 (level : Nat) : Statement (.gpioSetB1b5 level) :=
  of_length 12 (by decide) (by decide) fun _ _ h => by cases h; rfl

theorem gpioSetB1b6 (level : Nat) : Statement (.gpioSetB1b6 level) :=
  of_length 12 (by decide) (by decide) fun _ _ h => by cases h; rfl

theorem gpioSetB1b7 (level : Nat) : Statement (.gpioSetB1b7 level) :=
  of_length 12 (by decide) (by decide) fun _ _ h => by cases h; rfl

theorem otpQuery : Statement .otpQuery :=
  of_length 8 (by decide) (by decide) fun _ _ h => by cases h; rfl

theorem otpLock : Statement .otpLock :=
  of_length 10 (by decide) (by decide) fun _ _ h => by cases h; rfl

theorem reset : Statement .reset :=
  of_length 8 (by decide) (by decide) fun _ _ h => by cases h; rfl

theorem ddsFreq0 (value : Nat) : Statement (.ddsFreq0 value) :=
  of_length 12 (by decide) (by decide) fun _ _ h => by cases h; rfl

theorem ddsFreq1 (value : Nat) : Statement (.ddsFreq1 value) :=
  of_length 12 (by decide) (by decide) fun _ _ h => by cases h; rfl

theorem ddsPhase0 (value : Nat) : Statement (.ddsPhase0 value) :=
  of_length 10 (by decide) (by decide) fun _ _ h => by cases h; rfl

theorem ddsPhase1 (value : Nat) : Statement (.ddsPhase1 value) :=
  of_length 10 (by decide) (by decide) fun _ _ h => by cases h; rfl

theorem ddsAmp (value : Nat) : Statement (.ddsAmp value) :=
  of_length 10 (by decide) (by decide) fun _ _ h => by cases h; rfl

theorem ddsShape (shape : Shape) : Statement (.ddsShape shape) :=
  of_length 10 (by decide) (by decide) fun _ _ h => by cases h; rfl

theorem morse (text : List Byte) : Statement (.morse text) := fun _ _ h => nomatch h

theorem seqPrecheck : Statement .seqPrecheck := fun _ _ h => nomatch h

theorem seqEnd : Statement .seqEnd := fun _ _ h => nomatch h

theorem seqSkipWs : Statement .seqSkipWs := fun _ _ h => nomatch h

theorem seqSkipUnmapped : Statement .seqSkipUnmapped := fun _ _ h => nomatch h

theorem seqCharGap : Statement .seqCharGap := fun _ _ h => nomatch h

theorem seqWordGap : Statement .seqWordGap := fun _ _ h => nomatch h

theorem seqCharStart : Statement .seqCharStart := fun _ _ h => nomatch h

theorem seqDot : Statement .seqDot := fun _ _ h => nomatch h

theorem seqDash : Statement .seqDash := fun _ _ h => nomatch h

end Sys2Proof.Laws.ImageSize
end

