-- ==== Sys2Proof/Tests/Slice0.lean ====
section
/-! SUPPORT. Tests: ill-formed terms, decoding of words written out from the spec's encodings, one step
of each instruction on the vectors of 95_test_vectors.md, and a witness for every statement that has
hypotheses. Expected values come from the file and vector named in each docstring. -/

namespace Sys2Proof.Tests

open Sys2Proof Sys2Proof.Machine

/-! ## Helpers -/

/-- The parameter values that 95_test_vectors.md assumes. -/
def params : Params where
  dacEnPin := .b1_6
  genStatusSlot := 1
  dacEnActive := true
  genRunning := true
  otpLockWValue := 0xA5F1#16
  ampShift := .zero
  ddsChannel := .ch0
  ampChannel := .ch1
  ddsSpiCpol := true
  ddsSpiCpha := false
  punct := []

/-- A device with channel 0 selected, B28 = 1 and the latch empty (vector D27). -/
def device : Device where
  gpio := ⟨0xFF#8, 0x00#8⟩
  cs := ⟨true, false⟩
  spiword := ⟨0#8, 0#8⟩
  delays := ⟨.unspecified, .unspecified⟩
  otp := ⟨0#8, 1#8⟩
  dds := { freq0 := 0#28, freq1 := 0#28, phase0 := 0#12, phase1 := 0#12, ctrl := 0x2200#14, lsw := none }
  amp := 0#10

/-- The block in IDLE, an answer of `k` bytes ready for each call, with `RD_GOOD` as the word read. -/
def idle (ks : List Nat) : State where
  params := params
  busy := false
  result := .none
  rdata := ⟨0xEE#8, 0xEE#8⟩
  acc := ⟨[], 0⟩
  phase := .idle
  txt := []
  pos := 0
  lastWS := true
  pendGap := false
  code := []
  sym := 0
  dev := device
  handle := true
  port := []
  answers := ks.map fun k => .ok 1 k ⟨0x04#8, 0x00#8⟩
  calls := 0
  trace := []

/-- A MORSE command on its way: the message `"A"` at its one byte. -/
def running (ph : Phase) (ks : List Nat) : State :=
  { idle ks with busy := true, phase := ph, txt := [0x41#8] }

/-- The same inside the symbol number `n` of its code. -/
def inSymbol (ph : Phase) (n : Nat) (ks : List Nat) : State :=
  { running ph ks with lastWS := false, code := [.dot, .dash], sym := n }

/-- The next state of an outcome. -/
def next? : Host.Outcome State Fault Refusal → Option State
  | .next s => some s
  | .fault _ => none
  | .refused _ => none

/-- The refusal of an outcome. -/
def refused? : Host.Outcome State Fault Refusal → Option Refusal
  | .next _ => none
  | .fault _ => none
  | .refused r => some r

/-- What a decoder answer names. -/
def decoded? (sh : AmpShift) (bs : List Byte) : Option Instr :=
  match decode sh bs with
  | .ok i => some i
  | .error _ => none

/-! ## Ill-formed terms, one for each check (00_scope.md R7) -/

theorem test_wf_spi_ch : (Instr.spiMode 256 1 1).wf = false ∧ (Instr.spiMode 255 1 1).wf = true := by decide
theorem test_wf_spi_cpol : (Instr.spiMode 255 2 1).wf = false := by decide
theorem test_wf_spi_cpha : (Instr.spiMode 255 1 2).wf = false := by decide
theorem test_wf_cs_select : (Instr.csSelect 256).wf = false ∧ (Instr.csSelect 255).wf = true := by decide
theorem test_wf_cs_disable : (Instr.csDisable 256).wf = false ∧ (Instr.csDisable 255).wf = true := by decide
theorem test_wf_delay : (Instr.delayDisable 256).wf = false ∧ (Instr.delayDisable 255).wf = true := by decide
theorem test_wf_gpio : ∀ p : Pin, (gpioSetInstr p 2).wf = false ∧ (gpioSetInstr p 1).wf = true := by
  intro p; cases p <;> decide
theorem test_wf_freq0 : (Instr.ddsFreq0 0x10000000).wf = false ∧ (Instr.ddsFreq0 0xFFFFFFF).wf = true := by decide
theorem test_wf_freq1 : (Instr.ddsFreq1 0x10000000).wf = false ∧ (Instr.ddsFreq1 0xFFFFFFF).wf = true := by decide
theorem test_wf_phase0 : (Instr.ddsPhase0 0x1000).wf = false ∧ (Instr.ddsPhase0 0xFFF).wf = true := by decide
theorem test_wf_phase1 : (Instr.ddsPhase1 0x1000).wf = false ∧ (Instr.ddsPhase1 0xFFF).wf = true := by decide
theorem test_wf_amp : (Instr.ddsAmp 0x400).wf = false ∧ (Instr.ddsAmp 0x3FF).wf = true := by decide

/-! ## Decoding of words written out from the spec -/

/-- Vectors S4 and S5. -/
theorem test_decode_spi_mode :
    decoded? .zero [0x40#8, 0x31#8, 0#8, 0#8, 0#8, 0#8, 2#8, 0#8, 0xFF#8, 0x38#8] = some (.spiMode 255 1 1) ∧
    decoded? .zero [0x40#8, 0x31#8, 0#8, 0#8, 0#8, 0#8, 2#8, 0#8, 0#8, 0x28#8] = some (.spiMode 0 0 1) := by decide
/-- Vectors S8, S9, S13. -/
theorem test_decode_cs_select :
    decoded? .zero [0x40#8, 0x25#8, 0#8, 0#8, 0#8, 0#8, 2#8, 0#8, 1#8, 2#8] = some (.csSelect 1) := by decide
theorem test_decode_cs_disable :
    decoded? .zero [0x40#8, 0x25#8, 0#8, 0#8, 0#8, 0#8, 2#8, 0#8, 1#8, 0#8] = some (.csDisable 1) := by decide
theorem test_decode_delay_disable :
    decoded? .zero [0x40#8, 0x33#8, 0#8, 0#8, 0#8, 0#8, 8#8, 0#8, 1#8, 0#8, 0#8, 0#8, 0#8, 0#8, 0#8, 0#8] =
      some (.delayDisable 1) := by decide
/-- Vectors G13, O1, O5. -/
theorem test_decode_gpio_get :
    decoded? .zero [0xC0#8, 0x20#8, 0#8, 0#8, 0#8, 0#8, 2#8, 0#8] = some .gpioGet := by decide
theorem test_decode_otp_query :
    decoded? .zero [0xC0#8, 0x6E#8, 0#8, 0#8, 0#8, 0#8, 2#8, 0#8] = some .otpQuery := by decide
theorem test_decode_reset :
    decoded? .zero [0x40#8, 0x10#8, 0#8, 0#8, 0#8, 0#8, 0#8, 0#8] = some .reset := by decide
/-- Vectors G1 to G10. -/
theorem test_decode_gpio_set_b0 :
    decoded? .zero [0x40#8, 0x21#8, 0#8, 0#8, 0#8, 0#8, 4#8, 0#8, 1#8, 0#8, 1#8, 0#8] = some (.gpioSetB0b0 1) ∧
    decoded? .zero [0x40#8, 0x21#8, 0#8, 0#8, 0#8, 0#8, 4#8, 0#8, 0#8, 0#8, 1#8, 0#8] = some (.gpioSetB0b0 0) ∧
    decoded? .zero [0x40#8, 0x21#8, 0#8, 0#8, 0#8, 0#8, 4#8, 0#8, 4#8, 0#8, 4#8, 0#8] = some (.gpioSetB0b2 1) := by
  decide
theorem test_decode_gpio_set_b1 :
    decoded? .zero [0x40#8, 0x21#8, 0#8, 0#8, 0#8, 0#8, 4#8, 0#8, 0#8, 0x20#8, 0#8, 0x20#8] =
      some (.gpioSetB1b5 1) ∧
    decoded? .zero [0x40#8, 0x21#8, 0#8, 0#8, 0#8, 0#8, 4#8, 0#8, 0#8, 0x40#8, 0#8, 0x40#8] =
      some (.gpioSetB1b6 1) ∧
    decoded? .zero [0x40#8, 0x21#8, 0#8, 0#8, 0#8, 0#8, 4#8, 0#8, 0#8, 0#8, 0#8, 0x80#8] =
      some (.gpioSetB1b7 0) := by decide
/-- Vector O4. -/
theorem test_decode_otp_lock :
    decoded? .zero [0x40#8, 0x6F#8, 0xF1#8, 0xA5#8, 0#8, 0#8, 2#8, 0#8, 0#8, 0#8] = some .otpLock := by decide
/-- Vectors D3, D4, D5, D6, D8. -/
theorem test_decode_dds_freq0 :
    decoded? .zero [0#8, 0#8, 1#8, 0#8, 4#8, 0#8, 0#8, 0#8, 0x45#8, 0x67#8, 0x44#8, 0x8D#8] =
      some (.ddsFreq0 0x1234567) ∧
    decoded? .zero [0#8, 0#8, 1#8, 0#8, 4#8, 0#8, 0#8, 0#8, 0x40#8, 0#8, 0x60#8, 0#8] =
      some (.ddsFreq0 0x8000000) := by decide
theorem test_decode_dds_freq1 :
    decoded? .zero [0#8, 0#8, 1#8, 0#8, 4#8, 0#8, 0#8, 0#8, 0xBF#8, 0xFF#8, 0xBF#8, 0xFF#8] =
      some (.ddsFreq1 0xFFFFFFF) ∧
    decoded? .zero [0#8, 0#8, 1#8, 0#8, 4#8, 0#8, 0#8, 0#8, 0x80#8, 0#8, 0x80#8, 1#8] =
      some (.ddsFreq1 0x4000) := by decide
/-- Vectors D17, D19. -/
theorem test_decode_dds_phase :
    decoded? .zero [0#8, 0#8, 1#8, 0#8, 2#8, 0#8, 0#8, 0#8, 0xCF#8, 0xFF#8] = some (.ddsPhase0 0xFFF) ∧
    decoded? .zero [0#8, 0#8, 1#8, 0#8, 2#8, 0#8, 0#8, 0#8, 0xE1#8, 0x23#8] = some (.ddsPhase1 0x123) := by
  decide
/-- Vectors D10, D11, D14, D29. -/
theorem test_decode_dds_amp :
    decoded? .zero [0#8, 0#8, 1#8, 0#8, 2#8, 0#8, 0#8, 0#8, 3#8, 0xFF#8] = some (.ddsAmp 0x3FF) ∧
    decoded? .two [0#8, 0#8, 1#8, 0#8, 2#8, 0#8, 0#8, 0#8, 0x0F#8, 0xFC#8] = some (.ddsAmp 0x3FF) ∧
    decoded? .zero [0#8, 0#8, 1#8, 0#8, 2#8, 0#8, 0#8, 0#8, 0x0F#8, 0xFC#8] = none ∧
    decoded? .two [0#8, 0#8, 1#8, 0#8, 2#8, 0#8, 0#8, 0#8, 0#8, 0#8] = some (.ddsAmp 0) := by decide
/-- Vectors D24, D25. -/
theorem test_decode_dds_shape :
    decoded? .zero [0#8, 0#8, 1#8, 0#8, 2#8, 0#8, 0#8, 0#8, 0x22#8, 0#8] = some (.ddsShape .sine) ∧
    decoded? .zero [0#8, 0#8, 1#8, 0#8, 2#8, 0#8, 0#8, 0#8, 0x22#8, 2#8] = some (.ddsShape .triangle) := by
  decide
/-- Encodings of 30_encoding.md R97 that are no block output: chip-select flag 0x01, a two-bit GPIO
mask, a frequency payload with two tags, a payload longer than its length field. -/
theorem test_decode_rejects :
    decoded? .zero [0x40#8, 0x25#8, 0#8, 0#8, 0#8, 0#8, 2#8, 0#8, 0#8, 1#8] = none ∧
    decoded? .zero [0x40#8, 0x21#8, 0#8, 0#8, 0#8, 0#8, 4#8, 0#8, 0#8, 0#8, 5#8, 0#8] = none ∧
    decoded? .zero [0#8, 0#8, 1#8, 0#8, 4#8, 0#8, 0#8, 0#8, 0x45#8, 0x67#8, 0x84#8, 0x8D#8] = none ∧
    decoded? .zero [0xC0#8, 0x20#8, 0#8, 0#8, 0#8, 0#8, 2#8, 0#8, 0#8] = none ∧ decoded? .zero [] = none := by
  decide
/-- The table's rows as numbers: CS_SELECT 1, and DDS_AMP 0 under either shift. -/
theorem test_table_word :
    decodeTableWord 80 0x02010002000000002540 = some (.csSelect 1) ∧
    decodeTableWord 80 0x00000000000200010000 = some (.ddsAmp 0) := by constructor <;> rfl
/-- Vectors D2, D4, S12: the encoder. -/
theorem test_encode :
    encode params (.ddsFreq0 0x3FFFFFF) =
      some [0#8, 0#8, 1#8, 0#8, 4#8, 0#8, 0#8, 0#8, 0x7F#8, 0xFF#8, 0x4F#8, 0xFF#8] ∧
    encode params (.ddsFreq1 0xFFFFFFF) =
      some [0#8, 0#8, 1#8, 0#8, 4#8, 0#8, 0#8, 0#8, 0xBF#8, 0xFF#8, 0xBF#8, 0xFF#8] ∧
    encode params (.delayDisable 0) =
      some [0x40#8, 0x33#8, 0#8, 0#8, 0#8, 0#8, 8#8, 0#8, 0#8, 0#8, 0#8, 0#8, 0#8, 0#8, 0#8, 0#8] ∧
    encode params .otpLock = some [0x40#8, 0x6F#8, 0xF1#8, 0xA5#8, 0#8, 0#8, 2#8, 0#8, 0#8, 0#8] := by decide
/-- Vector D13 under both shifts. -/
theorem test_encode_amp :
    encode params (.ddsAmp 0x200) = some [0#8, 0#8, 1#8, 0#8, 2#8, 0#8, 0#8, 0#8, 2#8, 0#8] ∧
    encode { params with ampShift := .two } (.ddsAmp 0x200) =
      some [0#8, 0#8, 1#8, 0#8, 2#8, 0#8, 0#8, 0#8, 8#8, 0#8] := by decide

/-! ## One step of each instruction -/

/-- Vectors S2, S6. -/
theorem test_spi_mode :
    (next? (exec (.spiMode 0 1 0) (idle [2]))).map (fun t => (t.result, t.dev.spiword.ch0)) =
      some (.ok, 0x18#8) := by decide
theorem test_spi_mode_short :
    (next? (exec (.spiMode 0 1 0) (idle [1]))).map (fun t => (t.result, t.acc.count, t.dev.spiword.ch1)) =
      some (.fail, 1, 0#8) := by decide
/-- Vectors S8, S9, S10. -/
theorem test_cs_select :
    (next? (exec (.csSelect 1) (idle [2]))).map (fun t => t.dev.cs) = some ⟨false, true⟩ := by decide
theorem test_cs_disable :
    (next? (exec (.csDisable 1) (idle [2]))).map (fun t => t.dev.cs) = some ⟨true, false⟩ ∧
    (next? (exec (.csDisable 0) (idle [2]))).map (fun t => t.dev.cs) = some ⟨false, false⟩ := by decide
/-- Vector S12. -/
theorem test_delay_disable :
    (next? (exec (.delayDisable 0) (idle [8]))).map (fun t => t.dev.delays) = some ⟨.zero, .unspecified⟩ := by
  decide
/-- 42_gpio.md R116 and vector G15: the word read, and a short read that keeps `S.rdata`. -/
theorem test_gpio_get :
    (next? (exec .gpioGet (idle [2]))).map (fun t => (t.result, t.rdata)) = some (.ok, ⟨0x04#8, 0x00#8⟩) ∧
    (next? (exec .gpioGet (idle [1]))).map (fun t => (t.result, t.rdata)) =
      some (.fail, ⟨0xEE#8, 0xEE#8⟩) := by decide
/-- Vector G11, and the other pins by 20_memory.md R63. -/
theorem test_gpio_set_b0 :
    (next? (exec (.gpioSetB0b2 0) (idle [4]))).map (fun t => t.dev.gpio) = some ⟨0xFB#8, 0x00#8⟩ ∧
    (next? (exec (.gpioSetB0b0 0) (idle [4]))).map (fun t => t.dev.gpio) = some ⟨0xFE#8, 0x00#8⟩ := by decide
theorem test_gpio_set_b1 :
    (next? (exec (.gpioSetB1b7 1) (idle [4]))).map (fun t => t.dev.gpio) = some ⟨0xFF#8, 0x80#8⟩ ∧
    (next? (exec (.gpioSetB1b6 1) (idle [4]))).map (fun t => t.dev.gpio) = some ⟨0xFF#8, 0x40#8⟩ ∧
    (next? (exec (.gpioSetB1b5 1) (idle [4]))).map (fun t => t.dev.gpio) = some ⟨0xFF#8, 0x20#8⟩ := by decide
/-- Vectors O2, O3, O4, O5. -/
theorem test_otp_query :
    (next? (exec .otpQuery (idle [2]))).map otpVerdict = some (some false) ∧
    (next? (exec .otpQuery (idle [0]))).map otpVerdict = some none := by decide
theorem test_otp_lock :
    (next? (exec .otpLock (idle [2]))).map (fun t => t.dev.otp) = some ⟨0#8, 0#8⟩ := by decide
theorem test_reset :
    (next? (exec .reset (idle [0]))).map (fun t => (t.result, t.acc.count, t.dev.otp)) =
      some (.ok, 0, ⟨0#8, 1#8⟩) := by decide
/-- Vectors D27, D28. -/
theorem test_dds_freq :
    (next? (exec (.ddsFreq0 0x1234567) (idle [12]))).map (fun t => (t.dev.dds.freq0, t.dev.dds.lsw)) =
      some (0x1234567#28, none) ∧
    (next? (exec (.ddsFreq1 0x4000) (idle [12]))).map (fun t => (t.dev.dds.freq1, t.dev.dds.freq0)) =
      some (0x4000#28, 0#28) := by decide
theorem test_dds_freq_wrong_channel :
    (next? (exec (.ddsFreq0 0x1234567) { idle [12] with dev := { device with cs := ⟨false, true⟩ } })).map
      (fun t => (t.result, t.dev.dds.freq0)) = some (.ok, 0#28) := by decide
theorem test_dds_phase :
    (next? (exec (.ddsPhase0 0x800) (idle [10]))).map (fun t => t.dev.dds.phase0) = some 0x800#12 ∧
    (next? (exec (.ddsPhase1 0x123) (idle [10]))).map (fun t => t.dev.dds.phase1) = some 0x123#12 := by decide
/-- Vector D26. -/
theorem test_dds_phase_short :
    (next? (exec (.ddsPhase0 0) (idle [9]))).map
      (fun t => (t.result, t.acc.entries.map fun e => (e.op, e.req))) =
      some (.fail, [(.ddsPhase, .bulkOut 1#8)]) := by decide
/-- Program P1, steps 4 and 10. -/
theorem test_dds_amp :
    (next? (exec (.ddsAmp 0x200) { idle [10] with dev := { device with cs := ⟨false, true⟩ } })).map
      (fun t => t.dev.amp) = some 0x200#10 := by decide
theorem test_dds_shape :
    (next? (exec (.ddsShape .triangle) (idle [10]))).map (fun t => t.dev.dds.ctrl) = some 0x2202#14 := by decide
/-- 45_morse.md R170. -/
theorem test_morse_accepted :
    (next? (exec (.morse [0x53#8]) (idle []))).map (fun t => (t.busy, t.phase, t.txt)) =
      some (true, .precheck, [0x53#8]) := by decide
/-- Vectors M8, M9, M7. -/
theorem test_precheck :
    (next? (exec .seqPrecheck (running .precheck [2]))).map (fun t => t.phase) = some .fetch ∧
    (next? (exec .seqPrecheck { running .precheck [] with answers := [.ok 1 2 ⟨0#8, 0#8⟩] })).map
      (fun t => (t.result, t.busy)) = some (.precondGenOff, false) := by decide
theorem test_precheck_ends :
    (next? (exec .seqPrecheck
      { running .precheck [2] with dev := { device with gpio := ⟨0#8, 0x40#8⟩ } })).map
      (fun t => t.result) = some .precondDacOn ∧
    (next? (exec .seqPrecheck { running .precheck [] with answers := [.iofail] })).map
      (fun t => (t.result, t.acc.count)) = some (.fail, 1) := by decide
/-- 45_morse.md R176 to R178. -/
theorem test_seq_end :
    (next? (exec .seqEnd { running .fetch [] with pos := 1 })).map (fun t => (t.result, t.phase)) =
      some (.ok, .idle) := by decide
theorem test_seq_skip :
    (next? (exec .seqSkipWs { running .fetch [] with txt := [0x0A#8] })).map (fun t => (t.pos, t.trace)) =
      some (1, []) ∧
    (next? (exec .seqSkipUnmapped { running .fetch [] with txt := [0x09#8] })).map
      (fun t => (t.pos, t.trace)) = some (1, []) := by decide
/-- 45_morse.md R180, R181, R183. -/
theorem test_seq_char_gap :
    (next? (exec .seqCharGap { running .charGap [] with pendGap := true })).map
      (fun t => (t.pendGap, t.trace)) = some (false, [.delay 2]) := by decide
theorem test_seq_word_gap :
    (next? (exec .seqWordGap { running .wordGap [] with txt := [0x20#8], lastWS := false })).map
      (fun t => (t.lastWS, t.trace)) = some (true, [.echo 0x20#8, .delay 4]) := by decide
theorem test_seq_char_start :
    (next? (exec .seqCharStart { running .charStart [] with txt := [0x61#8] })).map
      (fun t => (t.code, t.trace)) = some ([.dot, .dash], [.echo 0x61#8]) := by decide
/-- 45_morse.md R189, and vector M12 for the failure. -/
theorem test_seq_dot :
    (next? (exec .seqDot (inSymbol .symOn 0 [4, 4]))).map (fun t => (t.phase, t.sym, delayUnits t.trace)) =
      some (.symOn, 1, 2) := by decide
theorem test_seq_dash :
    (next? (exec .seqDash (inSymbol .symOn 1 [4, 4]))).map
      (fun t => (t.phase, t.pendGap, t.pos, delayUnits t.trace)) = some (.fetch, true, 1, 4) := by decide
theorem test_seq_dot_second_write_fails :
    (next? (exec .seqDot (inSymbol .symOn 0 [4, 3]))).map
      (fun t => (t.result, t.acc.count, delayUnits t.trace)) = some (.fail, 1, 1) := by decide
/-- A micro-operation is no command: it runs only where its rule says (30_encoding.md R99). -/
theorem test_micro_op_not_due : refused? (exec .seqEnd (idle [])) = some .microOpNotDue := by decide
/-- Vector M18: a command presented while a MORSE command is in SYM_HOLD. -/
theorem test_busy_refusal :
    refused? (step { inSymbol .symHold 0 [] with port := [⟨.record .gpioGet, false⟩] }) = some .busy := by decide
/-- Vectors G17, D23. -/
theorem test_port_refusals :
    refused? (step { idle [] with port := [⟨.record (.gpioSet 0 1 1), true⟩] }) = some .pinNotMapped ∧
    refused? (step { idle [] with port := [⟨.record (.ddsFreq .phase0 5), true⟩] }) = some .wrongTagKind := by
  decide
/-- Vector M4, its events after the precheck, by the big-step procedure; its units. -/
theorem test_morse_units :
    echoesOf (morseRun [0x45#8, 0x20#8, 0x20#8, 0x54#8] (idle [2, 4, 4, 4, 4])).trace =
      [0x45#8, 0x20#8, 0x54#8] ∧
    delayUnits (morseRun [0x45#8, 0x20#8, 0x20#8, 0x54#8] (idle [2, 4, 4, 4, 4])).trace = 12 := by decide

/-- 30_encoding.md R97: a 0x33 and a 0x6F write with another payload, and a bulk write to another endpoint or
with another opcode, are outside the spec: any device, where the OTP is not locked. -/
theorem test_never_issued (f : Device) :
    ctrlOutEffect true f device 0x33#8 [1#8] = f ∧ ctrlOutEffect true f device 0x6F#8 [0#8, 1#8] = f ∧
    deviceAfter params 0 (.ctrlOut 0x6F#8 0#16 0#16 [0#8, 0#8]) true device = Config.freeDevice 0 0 ∧
    deviceAfter params 0 (.bulkOut 2#8 (envelope [0x22#8, 0#8])) true device = Config.freeDevice 0 0 ∧
    deviceAfter params 0 (.bulkOut 1#8 [0#8, 0#8, 0#8, 0#8, 2#8, 0#8, 0#8, 0#8, 0x22#8, 0#8]) true device =
      Config.freeDevice 0 0 := ⟨rfl, rfl, rfl, rfl, rfl⟩

/-! ## The first step after reset -/

/-- The step after reset takes the word placed at the port: RESET and OTP_LOCK complete. -/
theorem test_first_step :
    (next? (step (State.reset.withFetchWord 64 0x0000000000001040))).map (fun t => t.busy) = some false ∧
    (next? (step (State.reset.withFetchWord 80 0x00000002000000006F40))).map (fun t => t.busy) =
      some false := by constructor <;> rfl

/-! ## Witnesses: a concrete state and operands that meet the hypotheses of each statement, for each of
its clauses, at the boundary values where a clause has a range -/

/-- EncodeThenDecodeGivesInstruction and EveryCommandMovesItsFixedLength. -/
theorem test_hyp_encode :
    (Instr.ddsAmp 0x3FF).wf = true ∧
    encode { params with ampShift := .two } (.ddsAmp 0x3FF) =
      some [0#8, 0#8, 1#8, 0#8, 2#8, 0#8, 0#8, 0#8, 0x0F#8, 0xFC#8] ∧
    (Instr.spiMode 255 1 1).wf = true ∧ Instr.request params .reset = some resetRequest := by decide

/-- DecodedImageIsTheInstructionsImage: an image of OTP_LOCK with any sub-address, and another. -/
theorem test_hyp_decoded :
    decoded? .zero [0x40#8, 0x6F#8, 0xFF#8, 0xFF#8, 0#8, 0#8, 2#8, 0#8, 0#8, 0#8] = some .otpLock ∧
    decoded? .zero [0#8, 0#8, 1#8, 0#8, 2#8, 0#8, 0#8, 0#8, 0xCF#8, 0xFF#8] = some (.ddsPhase0 0xFFF) := by
  decide

/-- NeverIssuedEncodingsAreNeverIssued, AccumulatorRecordsEachTransportError, ParametersAreFixed: a step
with a transfer that succeeds, one with a transfer that fails, and one of the sequencer. -/
theorem test_hyp_step :
    (∃ t, step { idle [2] with port := [⟨.record (.csSelect 255), true⟩] } = .next t) ∧
    (∃ t, step { idle [1] with port := [⟨.record (.csSelect 255), true⟩] } = .next t) ∧
    (∃ t, step (inSymbol .symOn 0 [4]) = .next t) := ⟨⟨_, rfl⟩, ⟨_, rfl⟩, ⟨_, rfl⟩⟩

/-- BlockWaitsForACommand. -/
theorem test_hyp_waits : (idle []).phase = .idle ∧ (idle []).port = [] := by decide

/-- StepRunsThePresentedInstruction: an image, a record and a line; a caller that waits and one that
does not. -/
theorem test_hyp_step_runs :
    decoded? params.ampShift [0x40#8, 0x10#8, 0#8, 0#8, 0#8, 0#8, 0#8, 0#8] = some .reset ∧
    commandInstr params .dacOn = .ok (.gpioSetB1b6 1) ∧
    parseLine (ascii "RESET") = some .reset ∧ commandInstr params .reset = .ok .reset ∧
    (idle []).phase = .idle ∧ (inSymbol .symOn 0 []).phase ≠ .idle ∧
    (Presentation.mk (.record .reset) false).waits = false := by
  refine ⟨by decide, rfl, by decide, rfl, by decide, by decide, rfl⟩

/-- PortRefusesWhatDoesNotFit: busy; the first value that does not fit, and the last that does; a wrong
tag; an unmapped position. -/
theorem test_hyp_refuses :
    instrOp (.ddsFreq0 0x10000000) = some .ddsFreq ∧ (inSymbol .symHold 0 []).busy = true ∧
    (idle []).busy = false ∧ (Instr.ddsFreq0 0x10000000).wf = false ∧ (Instr.ddsFreq0 0xFFFFFFF).wf = true ∧
    (idle []).phase = .idle ∧ (∀ pin : Pin, ¬ (pin.byteIndex = 0 ∧ pin.bitIndex = 1)) ∧
    ({ idle [] with port := [⟨.record (.ddsPhase .freq1 0), false⟩] } : State).port =
      ⟨.record (.ddsPhase .freq1 0), false⟩ :: [] := by
  refine ⟨rfl, rfl, rfl, by decide, by decide, rfl, ?_, rfl⟩
  intro pin; cases pin <;> decide

/-- CallSucceedsExactlyAtItsLength: at the timeout, past it, no answer, no handle. -/
theorem test_hyp_call :
    (State.nextAnswer { idle [] with answers := [.ok 100 2 ⟨0#8, 0#8⟩] }) = .ok 100 2 ⟨0#8, 0#8⟩ ∧
    (State.nextAnswer { idle [] with answers := [.ok 101 2 ⟨0#8, 0#8⟩] }) = .ok 101 2 ⟨0#8, 0#8⟩ ∧
    (State.nextAnswer { idle [] with answers := [.iofail] }) = .iofail ∧ (idle []).handle = true ∧
    ({ idle [] with handle := false } : State).handle = false := by decide

/-- EncoderCommandsRunOneTransfer: a read that succeeds and one that does not. -/
theorem test_hyp_one_transfer :
    Instr.request (idle [2]).params .otpQuery = some otpQueryRequest ∧ instrOp .otpQuery = some .otpQuery ∧
    Instr.otpQuery.wf = true ∧ (idle [2]).busy = false ∧ (idle [2]).good otpQueryRequest = true ∧
    (idle [3]).good otpQueryRequest = false := by decide

/-- The SPI statements: channels 0, 1 and 255, each with a call that succeeds. -/
theorem test_hyp_spi :
    (idle [2]).busy = false ∧ (255 : Nat) < 256 ∧ (1 : Nat) < 2 ∧
    (idle [2]).good (spiModeRequest 0 1 1) = true ∧ (idle [2]).good (spiModeRequest 1 1 1) = true ∧
    (idle [2]).good (csSelectRequest 0) = true ∧ (idle [2]).good (csSelectRequest 1) = true ∧
    (idle [2]).good (csDisableRequest 0) = true ∧ (idle [2]).good (csDisableRequest 1) = true ∧
    (idle [8]).good (delayDisableRequest 0) = true ∧ (idle [8]).good (delayDisableRequest 1) = true ∧
    ({ idle [] with dev := { device with otp := ⟨0#8, 0#8⟩ } } : State).dev.otp = ⟨0#8, 0#8⟩ := by decide

/-- GpioGetReadsTheStatusWord and GpioSetDrivesOneLane: reads with both outcomes, levels 0 and 1, lanes
of the other byte and of the other positions. -/
theorem test_hyp_gpio :
    (idle [2]).good gpioGetRequest = true ∧ (idle [1]).good gpioGetRequest = false ∧
    (idle [4]).good (gpioSetRequest .b1_6 1) = true ∧ (idle [4]).good (gpioSetRequest .b0_0 0) = true ∧
    Pin.b1_6.byteIndex ≠ 0 ∧ Pin.b0_0.byteIndex ≠ 1 ∧ (7 : Nat) ≠ Pin.b1_6.bitIndex := by decide

/-- OtpQueryReportsTheLock, OtpLockLocks, ResetCommandKeepsBlockStateAndOtp, OtpLockIsIrreversible. -/
theorem test_hyp_control :
    (idle [2]).good otpQueryRequest = true ∧ (idle [1]).good otpQueryRequest = false ∧
    (idle [2]).good (otpLockRequest 0xA5F1#16) = true ∧ (idle [0]).good resetRequest = true ∧
    ({ idle [] with dev := { device with otp := ⟨0#8, 0#8⟩ } } : State).dev.otp = ⟨0#8, 0#8⟩ ∧
    ∃ t, step { idle [1] with
      dev := { device with otp := ⟨0#8, 0#8⟩ }, port := [⟨.record .otpLock, true⟩] } = .next t := by
  refine ⟨by decide, by decide, by decide, by decide, rfl, _, rfl⟩

/-- The DDS statements: the largest operands, the target selected, the other channel selected. -/
theorem test_hyp_dds :
    (0xFFFFFFF : Nat) < 2 ^ 28 ∧ (0xFFF : Nat) < 2 ^ 12 ∧ (0x3FF : Nat) < 2 ^ 10 ∧
    (idle [12]).good (ddsFreqRequest .freq0 0xFFFFFFF) = true ∧
    (idle [10]).good (ddsPhaseRequest .phase1 0xFFF) = true ∧
    (idle [10]).good (ddsAmpRequest .zero 0x3FF) = true ∧ (idle [10]).good (ddsShapeRequest .sine) = true ∧
    soleChannel device.cs = some params.ddsChannel ∧ device.dds.ctrl.getLsbD 13 = true ∧
    device.dds.lsw = none ∧ soleChannel ⟨false, true⟩ = some params.ampChannel ∧
    params.ampChannel ≠ params.ddsChannel := by decide

/-- BootOrderTakesEffect: both boot orders run to their end (program P1), the first with both kinds of
command after it, on both registers of each. -/
theorem test_hyp_boot :
    (idle []).dev.dds.lsw = none ∧
    ((runCommands (ddsBoot params .sine ++ [.ddsFreq .freq1 0xFFFFFFF, .ddsPhase .phase0 0xFFF, .ddsFreq .freq0 1,
        .ddsPhase .phase1 2]) (idle [2, 8, 2, 10, 12, 10, 12, 10])).map
      fun t => (t.dev.dds.freq0, t.dev.dds.freq1, t.dev.dds.phase0, t.dev.dds.phase1)) =
      some (1#28, 0xFFFFFFF#28, 0xFFF#12, 2#12) ∧
    ((runCommands (ampBoot params 1 0 0x3FF) (idle [2, 8, 2, 10])).map fun t => t.dev.amp) =
      some 0x3FF#10 := by decide

/-- FailedTransferTouchesOnlyItsFields: each clause, at the boundary channels; the latch empty, and held
by the register written and by the other one. -/
theorem test_hyp_failed :
    (idle [0]).good gpioGetRequest = false ∧ (idle [0]).good (spiModeRequest 0 0 0) = false ∧
    (idle [0]).good (spiModeRequest 1 0 0) = false ∧ (idle [7]).good (delayDisableRequest 0) = false ∧
    (idle [7]).good (delayDisableRequest 1) = false ∧ (idle [0]).good (csSelectRequest 255) = false ∧
    (idle [0]).good (csDisableRequest 0) = false ∧ (idle [0]).good (csDisableRequest 1) = false ∧
    (idle [0]).good (gpioSetRequest .b1_7 1) = false ∧
    (idle [0]).good (otpLockRequest 0xA5F1#16) = false ∧ (idle [1]).good resetRequest = false := by decide
theorem test_hyp_failed_bulk :
    (idle [9]).good (ddsFreqRequest .freq0 1) = false ∧ (idle [9]).good (ddsPhaseRequest .phase0 1) = false ∧
    (idle [9]).good (ddsPhaseRequest .phase1 1) = false ∧ (idle [9]).good (ddsShapeRequest .sine) = false ∧
    (idle [9]).good (ddsAmpRequest .zero 1) = false ∧ (ddsFreqRequest .freq0 1).ident = .bulkOut 1#8 ∧
    soleChannel device.cs = some params.ddsChannel ∧ device.dds.ctrl.getLsbD 13 = true ∧
    device.dds.lsw = none ∧ soleChannel ⟨false, true⟩ = some .ch1 ∧ Channel.ch1 ≠ params.ddsChannel ∧
    soleChannel device.cs = some .ch0 ∧ Channel.ch0 ≠ params.ampChannel ∧
    (∀ other low, some (FreqReg.freq0, 5#14) = some (other, low) → other = .freq0) := by
  refine ⟨by decide, by decide, by decide, by decide, by decide, by decide, by decide, by decide, by decide,
    by decide, by decide, by decide, by decide, ?_⟩
  intro other low h; cases h; rfl
theorem test_hyp_failed_next :
    (∃ t, exec (.delayDisable 1) (idle [7]) = .next t) ∧ (∃ t, exec (.ddsFreq0 1) (idle [9]) = .next t) ∧
    ∃ t, exec (.ddsFreq0 1)
      { idle [9] with dev := { device with dds := { device.dds with lsw := some (.freq1, 5#14) } } } = .next t :=
  ⟨⟨_, rfl⟩, ⟨_, rfl⟩, ⟨_, rfl⟩⟩

/-- CodeTableIsWellFormed and ByteClassesFollowTheTable: the ends of the ranges. -/
theorem test_hyp_table :
    tableCode params 0x41#8 = some [.dot, .dash] ∧ tableCode params 0x5A#8 = some [.dash, .dash, .dot, .dot] ∧
    tableCode params 0x30#8 = some [.dash, .dash, .dash, .dash, .dash] ∧
    tableCode params 0x39#8 = some [.dash, .dash, .dash, .dash, .dot] ∧
    fold 0x61#8 = 0x41#8 ∧ fold 0x7A#8 = 0x5A#8 ∧ fold 0x60#8 = 0x60#8 ∧ fold 0x7B#8 = 0x7B#8 ∧
    classOf params 0x09#8 = .unmapped ∧ classOf params 0x0A#8 = .ws := by decide

/-- MorseIsAcceptedAndLatched and PrecheckReadsAndDecides: the four ends of the precheck. -/
theorem test_hyp_precheck :
    (idle []).busy = false ∧ (running .precheck [2]).phase = .precheck ∧
    (running .precheck [1]).good gpioGetRequest = false ∧ (running .precheck [2]).good gpioGetRequest = true ∧
    genRunning params ⟨0#8, 0#8⟩ = false ∧ genRunning params ⟨4#8, 0x40#8⟩ = true ∧
    dacEnabled params ⟨4#8, 0x40#8⟩ = true ∧ dacEnabled params ⟨4#8, 0#8⟩ = false := by decide

/-- SilentMicroOperations and FetchDispatches: each clause. -/
theorem test_hyp_fetch :
    (running .fetch []).phase = .fetch ∧ (running .fetch []).port = [] ∧
    ({ running .fetch [] with pos := 1 } : State).pos = (running .fetch []).txt.length ∧
    (running .fetch []).pendGap = false ∧ (running .fetch []).lastWS = true ∧
    (running .fetch []).txt[0]? = some 0x41#8 ∧ classOf params 0x41#8 = .mapped ∧
    ({ running .fetch [] with txt := [0x20#8] } : State).txt[0]? = some 0x20#8 ∧
    classOf params 0x20#8 = .ws ∧ ({ running .fetch [] with txt := [0xFF#8] } : State).txt[0]? = some 0xFF#8 ∧
    classOf params 0xFF#8 = .unmapped ∧ ({ running .fetch [] with lastWS := false } : State).lastWS = false ∧
    ({ running .fetch [] with pendGap := true } : State).pendGap = true := by decide

/-- GapsAndCharacterStart. -/
theorem test_hyp_gaps :
    (running .charGap []).phase = .charGap ∧ (running .wordGap []).phase = .wordGap ∧
    (running .charStart []).phase = .charStart ∧ (running .charStart []).txt[0]? = some 0x41#8 ∧
    tableCode params (fold 0x41#8) = some [.dot, .dash] := by decide

/-- SymbolStepsDriveTheDac: each clause; both symbols; a gap that is not the last and one that is. -/
theorem test_hyp_symbol_steps :
    (inSymbol .symOn 0 [4]).port = [] ∧ (inSymbol .symOn 0 [4]).phase = .symOn ∧
    (inSymbol .symOn 0 [4]).good (dacOnRequest params) = true ∧
    (inSymbol .symOff 0 [3]).good (dacOffRequest params) = false ∧
    (inSymbol .symHold 0 []).code[0]? = some .dot ∧ (inSymbol .symHold 1 []).code[1]? = some .dash ∧
    (inSymbol .symGap 0 []).sym + 1 < (inSymbol .symGap 0 []).code.length ∧
    (inSymbol .symGap 1 []).code.length ≤ (inSymbol .symGap 1 []).sym + 1 := by decide

/-- DotAndDashEmitTheirEvents and SymbolIsItsSmallSteps. -/
theorem test_hyp_symbol :
    (inSymbol .symOn 0 [4, 4]).phase = .symOn ∧ (inSymbol .symOn 0 [4, 4]).code[0]? = some .dot ∧
    (inSymbol .symOn 1 [4, 4]).code[1]? = some .dash ∧ (inSymbol .symOn 0 [4, 4]).port = [] ∧
    (inSymbol .symOn 0 [4, 4]).good (dacOnRequest params) = true ∧
    (((inSymbol .symOn 0 [4, 4]).runSymOn).runSymHold .dot).good (dacOffRequest params) = true ∧
    (((inSymbol .symOn 1 [4, 4]).runSymOn).runSymHold .dash).good (dacOffRequest params) = true := by decide

/-- SequencerTouchesOnlyGpio. -/
theorem test_hyp_sequencer : ∃ t, sequencerStep (inSymbol .symOff 1 [4]) = .next t := ⟨_, rfl⟩

/-- A state in the symbol `n` of `"A"` has the invariant. -/
theorem inv_inSymbol (ph : Phase) (n : Nat) (ks : List Nat) (hp : symbolPhase ph = true) (hn : n < 2) :
    Inv (inSymbol ph n ks) where
  count := rfl
  busy := ⟨fun _ h => (by cases (show ph = .idle from h); cases hp), fun _ => rfl⟩
  running := fun _ => rfl
  pos := Nat.zero_le _
  gap := fun _ => rfl
  precheck := by intro h; cases h; cases hp
  charGap := by intro h; cases h; cases hp
  wordGap := by intro h; cases h; cases hp
  charStart := by intro h; cases h; cases hp
  symbol := fun _ => ⟨rfl, rfl, hn, 0x41#8, rfl, rfl, rfl⟩

/-- A state at the start of a character of `"A"` has the invariant. -/
theorem inv_charStart (ks : List Nat) : Inv (running .charStart ks) where
  count := rfl
  busy := ⟨fun _ => nofun, fun _ => rfl⟩
  running := fun _ => rfl
  pos := Nat.zero_le _
  gap := fun _ => rfl
  precheck := nofun
  charGap := nofun
  wordGap := nofun
  charStart := fun _ => ⟨rfl, rfl⟩
  symbol := nofun

/-- A state in a word gap has the invariant. -/
theorem inv_wordGap : Inv { running .wordGap [] with txt := [0x20#8], lastWS := false, pendGap := true } where
  count := rfl
  busy := by decide
  running := fun _ => rfl
  pos := Nat.zero_le _
  gap := nofun
  precheck := nofun
  charGap := nofun
  wordGap := fun _ => ⟨rfl, rfl⟩
  charStart := nofun
  symbol := nofun

/-- A state at the end of its text has the invariant. -/
theorem inv_end : Inv { running .fetch [] with pos := 1 } where
  count := rfl
  busy := by decide
  running := fun _ => rfl
  pos := Nat.le_refl _
  gap := fun _ => rfl
  precheck := nofun
  charGap := nofun
  wordGap := nofun
  charStart := nofun
  symbol := nofun

/-- MessageIsLatchedAndPositionAdvances, GapFlagsChangeOnlyByTheirRules, EveryStepKeepsTheInvariant: the
four clauses on the flags. -/
theorem test_hyp_flags :
    (Inv (running .charStart []) ∧ ∃ t, step (running .charStart []) = .next t ∧
      (running .charStart []).lastWS = true ∧ t.lastWS = false) ∧
    (Inv { running .wordGap [] with txt := [0x20#8], lastWS := false, pendGap := true } ∧
      ∃ t, step { running .wordGap [] with txt := [0x20#8], lastWS := false, pendGap := true } = .next t ∧
        t.lastWS = true ∧ t.pendGap = false) ∧
    (Inv (inSymbol .symGap 1 []) ∧ ∃ t, step (inSymbol .symGap 1 []) = .next t ∧
      (inSymbol .symGap 1 []).pendGap = false ∧ t.pendGap = true) :=
  ⟨⟨inv_charStart [], _, rfl, rfl, rfl⟩, ⟨inv_wordGap, _, rfl, rfl, rfl⟩,
    ⟨inv_inSymbol .symGap 1 [] rfl (by decide), _, rfl, rfl, rfl⟩⟩

/-- EndStateAfterOk. -/
theorem test_hyp_end :
    Inv { running .fetch [] with pos := 1 } ∧ (running .fetch []).phase ≠ .idle ∧
      ∃ t, step { running .fetch [] with pos := 1 } = .next t ∧ t.phase = .idle ∧ t.result = .ok :=
  ⟨inv_end, by decide, _, rfl, rfl, rfl⟩

/-- NoFaultUnderTheInvariant and SmallStepsComputeTheBigStep: a caller that waits. -/
theorem test_hyp_caller :
    Inv (inSymbol .symHold 1 []) ∧ (inSymbol .symHold 1 []).busy = true ∧
    callerWaits { inSymbol .symHold 1 [] with port := [⟨.record .gpioGet, true⟩] } ∧
    callerWaits (idle [2]) ∧ (idle [2]).phase = .idle ∧ (idle [2]).busy = false :=
  ⟨inv_inSymbol .symHold 1 [] rfl (by decide), rfl,
    fun q rest h => (by cases h; rfl), nofun, rfl, rfl⟩

/-- GapLaw: a mapped byte whose writes succeed, first and after an owed gap; unmapped bytes, none and one,
before a mapped byte; the shortest run with a whitespace byte, and one with unmapped bytes around it. -/
theorem test_hyp_gap :
    classOf (idle []).params 0x65#8 = .mapped ∧ tableCode (idle []).params (fold 0x65#8) = some [.dot] ∧
    (morseSymbols [.dot] ((idle [4, 4]).emit (.echo 0x65#8))).2 = true ∧
    (morseSymbols [.dot] (((idle [4, 4]).emit (.delay 2)).emit (.echo 0x65#8))).2 = true ∧
    (∀ b ∈ ([] : List Byte), classOf (idle []).params b = .unmapped) ∧
    (∀ b ∈ [0x09#8], classOf (idle []).params b = .unmapped) ∧ classOf (idle []).params 0x39#8 = .mapped ∧
    (∀ b ∈ [0x0A#8], classOf (idle []).params b ≠ .mapped) ∧
    (∃ b ∈ [0x0A#8], classOf (idle []).params b = .ws) := by decide

/-- CollapseLaw: a run with whitespace bytes among unmapped ones, and one without. -/
theorem test_hyp_collapse :
    (∀ b ∈ [0x09#8, 0x20#8, 0xFF#8, 0x0A#8], classOf (idle []).params b ≠ .mapped) ∧
    (∃ b ∈ [0x09#8, 0x20#8, 0xFF#8, 0x0A#8], classOf (idle []).params b = .ws) ∧
    (∀ b ∈ [0x09#8, 0xFF#8], classOf (idle []).params b ≠ .mapped) ∧
    (∀ b ∈ [0x09#8, 0xFF#8], classOf (idle []).params b ≠ .ws) := by decide

/-- MorseStopsAtItsFirstFailure and MorseTransfersAndEchoesAreBounded on vector M4's message: the word gap
after `E`, and a second write that fails. -/
theorem test_morse_bounds :
    wordGapCount params true [0x20#8, 0x45#8, 0x20#8, 0x0A#8, 0x54#8] = 1 ∧
    mappedCount params [0x20#8, 0x45#8, 0x20#8, 0x0A#8, 0x54#8] = 2 ∧
    (morseRun [0x45#8] (idle [2, 4, 3])).result = .fail := by decide

/-- PulseLaw, MessageWithoutMappedBytesIsSilent and MorseOkLeavesTheDacInactive. -/
theorem test_hyp_morse :
    (morseSymbols [.dot, .dash] (inSymbol .symOn 0 [4, 4, 4, 4])).2 = true ∧
    (∀ c ∈ [0x20#8, 0x09#8, 0x0A#8], classOf (idle []).params c ≠ .mapped) ∧
    (morseRun [0x54#8] (idle [2, 4, 4])).result = .ok := by decide

end Sys2Proof.Tests
end

section
/-! The invariant of the sequencer and accumulator registers (10_state.md R21 to R30): it holds at reset,
every step keeps it, and under it a step changes the message registers only as their rules say. -/

namespace Sys2Proof.Machine

/-! ## Dispatched classes and the current byte (45_morse.md R164) -/

/-- A byte that has a class is a byte of the message. -/
theorem State.pos_lt_of_currentClass {s : State} {k : ByteClass} (h : s.currentClass = some k) :
    s.pos < s.txt.length := by
  obtain ⟨c, hc, -⟩ := Option.map_eq_some_iff.1 h
  exact (List.getElem?_eq_some_iff.1 hc).1

/-- A mapped byte is not in WS_SET. -/
theorem isWs_of_classOf_mapped {p : Params} {c : Byte} (h : classOf p c = .mapped) :
    isWs c = false := by
  unfold classOf at h
  cases hw : isWs c <;> simp_all

/-- A mapped current byte is not in WS_SET. -/
theorem State.isWs_of_currentClass_mapped {s : State} {c : Byte} (h : s.currentClass = some .mapped)
    (hc : s.current = some c) : isWs c = false := by
  rw [State.currentClass, hc] at h
  exact isWs_of_classOf_mapped (Option.some.inj h)

/-! ## The invariant, phase by phase -/

/-- What the invariant asks of the registers while a symbol is signalled (10_state.md R27). -/
def State.InSymbol (s : State) : Prop :=
  s.pendGap = false ∧ s.lastWS = false ∧ s.sym < s.code.length ∧
    ∃ c, s.current = some c ∧ isWs c = false ∧ tableCode s.params (fold c) = some s.code

/-- What the invariant asks of the registers of a state that is in phase `ph`. -/
def State.FitsPhase (s : State) : Phase → Prop
  | .idle => True
  | .precheck => s.pos = 0 ∧ s.lastWS = true ∧ s.pendGap = false ∧ s.code = [] ∧ s.sym = 0
  | .fetch => True
  | .charGap => s.pendGap = true
  | .wordGap => s.lastWS = false ∧ s.currentClass = some .ws
  | .charStart => s.pendGap = false ∧ s.currentClass = some .mapped
  | .symOn => s.InSymbol
  | .symHold => s.InSymbol
  | .symOff => s.InSymbol
  | .symGap => s.InSymbol

/-- The invariant is what it asks in every phase, and what it asks in the phase the state is in. -/
theorem inv_iff_fitsPhase {s : State} :
    Inv s ↔ s.acc.count = s.acc.entries.length ∧ (s.busy = true ↔ s.phase ≠ .idle) ∧
      (s.busy = true → s.result = .none) ∧ s.pos ≤ s.txt.length ∧
      (s.lastWS = true → s.pendGap = false) ∧ s.FitsPhase s.phase := by
  constructor
  · intro h
    refine ⟨h.count, h.busy, h.running, h.pos, h.gap, ?_⟩
    cases hp : s.phase with
    | idle | fetch => trivial
    | precheck => exact h.precheck hp
    | charGap => exact h.charGap hp
    | wordGap => exact h.wordGap hp
    | charStart => exact h.charStart hp
    | symOn | symHold | symOff | symGap => exact h.symbol (by rw [hp]; rfl)
  · rintro ⟨hcount, hbusy, hrun, hpos, hgap, hfit⟩
    have fits {ph : Phase} (hp : s.phase = ph) : s.FitsPhase ph := hp ▸ hfit
    refine ⟨hcount, hbusy, hrun, hpos, hgap, fits, fits, fits, fits, fun hsym => ?_⟩
    cases hp : s.phase with
    | symOn | symHold | symOff | symGap => exact fits hp
    | idle | precheck | fetch | charGap | wordGap | charStart => simp [hp, symbolPhase] at hsym

/-- In a symbol phase the invariant's symbol clause holds. -/
theorem Inv.inSymbol {s : State} (h : Inv s) (hp : symbolPhase s.phase = true) : s.InSymbol := h.symbol hp

/-- Under the invariant a MORSE command is active exactly while the block is busy. -/
theorem Inv.idle_of_not_busy {s : State} (h : Inv s) (hb : s.busy = false) : s.phase = .idle := by
  by_contra hp
  simp [h.busy.2 hp] at hb

/-! ## How the invariant is established -/

/-- In IDLE only the accumulator, the position and the flags are constrained. -/
theorem inv_of_idle {t : State} (hcount : t.acc.count = t.acc.entries.length) (hidle : t.phase = .idle)
    (hbusy : t.busy = false) (hpos : t.pos ≤ t.txt.length) (hgap : t.lastWS = true → t.pendGap = false) :
    Inv t :=
  inv_iff_fitsPhase.2 ⟨hcount, by simp [hbusy, hidle], by simp [hbusy], hpos, hgap,
    by rw [hidle]; trivial⟩

/-- The sequencer goes on: the accumulator, `busy` and the result stay, and the registers fit the phase
that is entered. -/
theorem Inv.goOn {s t : State} (h : Inv s) (hactive : s.phase ≠ .idle)
    (hctl : t.acc = s.acc ∧ t.busy = s.busy ∧ t.result = s.result) (hentered : t.phase ≠ .idle)
    (hpos : t.pos ≤ t.txt.length) (hgap : t.lastWS = true → t.pendGap = false)
    (hfit : t.FitsPhase t.phase) : Inv t := by
  obtain ⟨hacc, hbusy, hres⟩ := hctl
  have hb : s.busy = true := h.busy.2 hactive
  exact inv_iff_fitsPhase.2 ⟨by rw [hacc]; exact h.count, by simp [hbusy, hb, hentered],
    fun _ => hres.trans (h.running hb), hpos, hgap, hfit⟩

/-- Entering a phase that the registers fit. -/
theorem Inv.toPhase {s : State} {ph : Phase} (h : Inv s) (hactive : s.phase ≠ .idle) (hph : ph ≠ .idle)
    (hfit : s.FitsPhase ph) : Inv (s.toPhase ph) :=
  h.goOn hactive ⟨rfl, rfl, rfl⟩ hph h.pos h.gap (by cases ph <;> exact hfit)

/-- The end of a MORSE command. -/
theorem Inv.endWith {s : State} (h : Inv s) (r : Result) : Inv (s.endWith r) :=
  inv_of_idle h.count rfl rfl h.pos h.gap

/-- An event alone. -/
theorem Inv.emit {s : State} (h : Inv s) (e : Event) : Inv (s.emit e) :=
  ⟨h.count, h.busy, h.running, h.pos, h.gap, h.precheck, h.charGap, h.wordGap, h.charStart, h.symbol⟩

/-- `Try` keeps the count equal to the number of entries (60_exceptions.md R203). -/
theorem State.tryCall_count {s : State} (h : s.acc.count = s.acc.entries.length) (op : Op) (r : Request) :
    (s.tryCall op r).acc.count = (s.tryCall op r).acc.entries.length := by
  rw [State.tryCall_acc]
  split
  · exact h
  · simp [h]

/-- `Try` keeps the invariant: it changes no sequencer register. -/
theorem Inv.tryCall {s : State} (h : Inv s) (op : Op) (r : Request) : Inv (s.tryCall op r) := by
  have hcount := State.tryCall_count h.count op r
  revert hcount
  unfold State.tryCall
  split <;> intro hcount <;>
    exact ⟨hcount, h.busy, h.running, h.pos, h.gap, h.precheck, h.charGap, h.wordGap, h.charStart,
      h.symbol⟩

/-- A call leaves the registers fitting the phases they fit. -/
theorem State.FitsPhase.tryCall {s : State} {ph : Phase} (h : s.FitsPhase ph) (op : Op) (r : Request) :
    (s.tryCall op r).FitsPhase ph := by
  unfold State.tryCall
  split <;> cases ph <;> exact h

/-! ## Commands -/

/-- A command of one transfer, taken from the port while the block is not busy. -/
theorem Inv.exec1 {s : State} (h : Inv s) (hb : s.busy = false) (rest : List Presentation) (op : Op)
    (r : Request) : Inv (State.exec1 { s with port := rest } op r) :=
  inv_of_idle (State.tryCall_count (s := { s with port := rest }) h.count op r)
    (by simp [State.exec1, h.idle_of_not_busy hb]) rfl (by simpa [State.exec1] using h.pos)
    (by simpa [State.exec1] using h.gap)

/-- Acceptance of MORSE sets every sequencer register (45_morse.md R170). -/
theorem Inv.acceptMorse {s : State} (h : Inv s) (rest : List Presentation) (text : List Byte) :
    Inv (State.acceptMorse { s with port := rest } text) :=
  inv_iff_fitsPhase.2 ⟨h.count, by simp, fun _ => rfl, Nat.zero_le _, fun _ => rfl, rfl, rfl, rfl, rfl, rfl⟩

/-! ## The sequencer -/

theorem Inv.runPrecheck {s : State} (h : Inv s) (hp : s.phase = .precheck) : Inv s.runPrecheck := by
  have ht : Inv (s.tryCall .gpioGet gpioGetRequest) := h.tryCall _ _
  rcases s.runPrecheck_cases with ⟨-, he⟩ | ⟨-, -, he⟩ | ⟨-, -, -, he⟩ | ⟨-, -, -, he⟩ <;> rw [he]
  case inr.inr.inr => exact ht.toPhase (by simp [hp]) (by decide) trivial
  all_goals exact ht.endWith _

/-- A consumed byte that has no event (45_morse.md R177, R178). -/
theorem Inv.skipByte {s : State} {k : ByteClass} (h : Inv s) (hp : s.phase = .fetch)
    (hk : s.currentClass = some k) : Inv s.skipByte :=
  h.goOn (by simp [hp]) ⟨rfl, rfl, rfl⟩ (by simp [hp]) (State.pos_lt_of_currentClass hk) h.gap
    (by rw [State.skipByte_phase, hp]; trivial)

theorem Inv.runCharGap {s : State} (h : Inv s) (hp : s.phase = .charGap) : Inv s.runCharGap :=
  h.goOn (by simp [hp]) ⟨rfl, rfl, rfl⟩ (by simp) h.pos (fun _ => rfl) trivial

theorem Inv.runWordGap {s : State} (h : Inv s) (hp : s.phase = .wordGap) : Inv s.runWordGap :=
  h.goOn (by simp [hp]) ⟨rfl, rfl, rfl⟩ (by simp) (State.pos_lt_of_currentClass (h.wordGap hp).2)
    (fun _ => rfl) trivial

/-- CHAR_START starts at the first symbol of a code, and no code is empty (45_morse.md R162, R183). -/
theorem Inv.runCharStart {s : State} {c : Byte} {code : List Symbol} (h : Inv s)
    (hp : s.phase = .charStart) (hc : s.current = some c)
    (hcode : tableCode s.params (fold c) = some code) : Inv (s.runCharStart c code) := by
  obtain ⟨hpend, hmapped⟩ := h.charStart hp
  have hpos : 0 < code.length := List.length_pos_iff.2 (tableCode_spec hcode).1
  have hws : isWs c = false := State.isWs_of_currentClass_mapped hmapped hc
  exact h.goOn (by simp [hp]) ⟨rfl, rfl, rfl⟩ (by simp) h.pos (fun _ => hpend)
    ⟨hpend, rfl, hpos, c, hc, hws, hcode⟩

/-- A DAC-enable write goes on to the next symbol phase, or ends the command (45_morse.md R188). -/
theorem Inv.dacWrite {s : State} {next : Phase} (h : Inv s) (hp : symbolPhase s.phase = true)
    (hnext : next ≠ .idle) (hfit : s.FitsPhase next) (r : Request) : Inv (s.dacWrite r next) := by
  have ht : Inv (s.tryCall .gpioSet r) := h.tryCall _ _
  have hactive : s.phase ≠ .idle := fun h0 => by simp [h0, symbolPhase] at hp
  rcases s.dacWrite_cases r next with ⟨-, he⟩ | ⟨-, he⟩ <;> rw [he]
  · exact ht.toPhase (by simpa using hactive) hnext (hfit.tryCall _ _)
  · exact ht.endWith .fail

theorem Inv.runSymOn {s : State} (h : Inv s) (hp : s.phase = .symOn) : Inv s.runSymOn :=
  have hs : symbolPhase s.phase = true := by rw [hp]; rfl
  h.dacWrite (next := .symHold) hs (by decide) (h.inSymbol hs) _

theorem Inv.runSymHold {s : State} (h : Inv s) (hp : s.phase = .symHold) (x : Symbol) :
    Inv (s.runSymHold x) :=
  (h.emit _).toPhase (by simp [hp]) (by decide) (h.inSymbol (by rw [hp]; rfl))

theorem Inv.runSymOff {s : State} (h : Inv s) (hp : s.phase = .symOff) : Inv s.runSymOff :=
  have hs : symbolPhase s.phase = true := by rw [hp]; rfl
  h.dacWrite (next := .symGap) hs (by decide) (h.inSymbol hs) _

/-- The gap after a symbol: the next symbol, or the byte is consumed and a gap is owed. -/
theorem Inv.runSymGap {s : State} (h : Inv s) (hp : s.phase = .symGap) : Inv s.runSymGap := by
  have hactive : s.phase ≠ .idle := by simp [hp]
  obtain ⟨hpend, hlast, -, c, hc, hws, hcode⟩ := h.inSymbol (by rw [hp]; rfl)
  rcases s.runSymGap_cases with ⟨hmore, he⟩ | ⟨-, he⟩ <;> rw [he]
  · exact h.goOn hactive ⟨rfl, rfl, rfl⟩ (by simp) h.pos h.gap
      ⟨hpend, hlast, hmore, c, hc, hws, hcode⟩
  · exact h.goOn hactive ⟨rfl, rfl, rfl⟩ (by simp) (List.getElem?_eq_some_iff.1 hc).1
      (fun hl => by simp [hlast] at hl) trivial

/-- The sequencer keeps the invariant (45_morse.md R171 to R188). -/
theorem Inv.of_sequencerStep {s t : State} (h : Inv s) (hs : sequencerStep s = .next t) : Inv t := by
  have active {ph : Phase} (hp : s.phase = ph) (hne : ph ≠ .idle) : s.phase ≠ .idle := hp ▸ hne
  rcases sequencerStep_next_cases hs with ⟨-, rfl⟩ | ⟨hp, rfl⟩ | ⟨hp, -, -, hg, rfl⟩ | ⟨-, -, -, -, rfl⟩ |
    ⟨hp, hk, -, rfl⟩ | ⟨hp, hk, hl, rfl⟩ | ⟨hp, -, hg, rfl⟩ | ⟨hp, hk, hg, rfl⟩ | ⟨hp, hk, rfl⟩ |
    ⟨hp, rfl⟩ | ⟨hp, rfl⟩ | ⟨hp, c, code, hc, hcode, rfl⟩ | ⟨hp, rfl⟩ | ⟨hp, x, -, rfl⟩ | ⟨hp, rfl⟩ |
    ⟨hp, rfl⟩
  · exact h
  · exact h.runPrecheck hp
  · exact h.toPhase (active hp (by decide)) (by decide) hg
  · exact h.endWith .ok
  · exact h.skipByte hp hk
  · exact h.toPhase (active hp (by decide)) (by decide) ⟨hl, hk⟩
  · exact h.toPhase (active hp (by decide)) (by decide) hg
  · exact h.toPhase (active hp (by decide)) (by decide) ⟨hg, hk⟩
  · exact h.skipByte hp hk
  · exact h.runCharGap hp
  · exact h.runWordGap hp
  · exact h.runCharStart hp hc hcode
  · exact h.runSymOn hp
  · exact h.runSymHold hp x
  · exact h.runSymOff hp
  · exact h.runSymGap hp

/-- Settles O58: a step is a command of one transfer, a MORSE command accepted, or the sequencer's. -/
theorem everyStepKeepsTheInvariant : Obligations.EveryStepKeepsTheInvariant := by
  intro s t h hstep
  rcases step_cases hstep with ⟨rest, op, r, i, hb, -, -, -, rfl⟩ | ⟨rest, text, -, rfl⟩ | hs
  · exact h.exec1 hb rest op r
  · exact h.acceptMorse rest text
  · exact h.of_sequencerStep hs

/-- Settles O57. -/
theorem invariantHoldsAtReset : Obligations.InvariantHoldsAtReset :=
  inv_of_idle rfl rfl rfl (Nat.le_refl 0) (fun _ => rfl)

/-! ## The message registers of an active command (10_state.md R23 to R26) -/

/-- The latched message, the position in it, and the two gap flags. -/
structure MessageRegs where
  txt : List Byte
  pos : Nat
  lastWS : Bool
  pendGap : Bool

/-- The message registers of a state. -/
def State.message (s : State) : MessageRegs := ⟨s.txt, s.pos, s.lastWS, s.pendGap⟩

/-- What one step of an active MORSE command can do to the message registers. -/
inductive MessageStep (s t : State) : Prop where
  /-- No message register changes. -/
  | stay (h : t.message = s.message)
  /-- A byte without an event is consumed (45_morse.md R177, R178). -/
  | skip (hlt : s.pos < s.txt.length) (h : t.message = { s.message with pos := s.pos + 1 })
  /-- CHAR_GAP: the gap is no longer owed (45_morse.md R180). -/
  | charGap (hp : s.phase = .charGap) (h : t.message = { s.message with pendGap := false })
  /-- WORD_GAP: the byte is consumed, the last byte is whitespace, no gap is owed (45_morse.md R181). -/
  | wordGap (hp : s.phase = .wordGap) (hlt : s.pos < s.txt.length)
      (h : t.message = ⟨s.txt, s.pos + 1, true, false⟩)
  /-- CHAR_START: the last byte is no whitespace (45_morse.md R183). -/
  | charStart (hp : s.phase = .charStart) (h : t.message = { s.message with lastWS := false })
  /-- The end of a character's last symbol: the byte is consumed and a gap is owed (45_morse.md R187). -/
  | lastSymbol (hp : s.phase = .symGap) (hlt : s.pos < s.txt.length) (hsym : t.sym = t.code.length)
      (h : t.message = { s.message with pos := s.pos + 1, pendGap := true })

/-- A call changes no message register. -/
@[simp] theorem State.tryCall_message (s : State) (op : Op) (r : Request) :
    (s.tryCall op r).message = s.message := by
  simp [State.message]

/-- PRECHECK changes no message register, however it ends. -/
@[simp] theorem State.runPrecheck_message (s : State) : s.runPrecheck.message = s.message := by
  rw [← s.tryCall_message .gpioGet gpioGetRequest]
  rcases s.runPrecheck_cases with ⟨-, he⟩ | ⟨-, -, he⟩ | ⟨-, -, -, he⟩ | ⟨-, -, -, he⟩ <;> rw [he] <;> rfl

/-- A DAC-enable write changes no message register, however it ends. -/
@[simp] theorem State.dacWrite_message (s : State) (r : Request) (next : Phase) :
    (s.dacWrite r next).message = s.message := by
  rw [← s.tryCall_message .gpioSet r]
  rcases s.dacWrite_cases r next with ⟨-, he⟩ | ⟨-, he⟩ <;> rw [he] <;> rfl

/-- SYM_GAP under the invariant: within a character nothing changes; after its last symbol the symbol
index is the length of the code. -/
theorem Inv.runSymGap_message {s : State} (h : Inv s) (hp : s.phase = .symGap) :
    MessageStep s s.runSymGap := by
  obtain ⟨-, -, hsym, c, hc, -⟩ := h.inSymbol (by rw [hp]; rfl)
  rcases s.runSymGap_cases with ⟨-, he⟩ | ⟨hend, he⟩ <;> rw [he]
  · exact .stay rfl
  · exact .lastSymbol hp (List.getElem?_eq_some_iff.1 hc).1 (Nat.le_antisymm hsym hend) rfl

/-- Under the invariant the sequencer changes the message registers in no other way. -/
theorem Inv.messageStep {s t : State} (h : Inv s) (hs : sequencerStep s = .next t) :
    MessageStep s t := by
  rcases sequencerStep_next_cases hs with ⟨-, rfl⟩ | ⟨-, rfl⟩ | ⟨-, -, -, -, rfl⟩ | ⟨-, -, -, -, rfl⟩ |
    ⟨-, hk, -, rfl⟩ | ⟨-, -, -, rfl⟩ | ⟨-, -, -, rfl⟩ | ⟨-, -, -, rfl⟩ | ⟨-, hk, rfl⟩ | ⟨hp, rfl⟩ |
    ⟨hp, rfl⟩ | ⟨hp, c, code, -, -, rfl⟩ | ⟨-, rfl⟩ | ⟨-, x, -, rfl⟩ | ⟨-, rfl⟩ | ⟨hp, rfl⟩
  · exact .stay rfl
  · exact .stay s.runPrecheck_message
  · exact .stay rfl
  · exact .stay rfl
  · exact .skip (State.pos_lt_of_currentClass hk) rfl
  · exact .stay rfl
  · exact .stay rfl
  · exact .stay rfl
  · exact .skip (State.pos_lt_of_currentClass hk) rfl
  · exact .charGap hp rfl
  · exact .wordGap hp (State.pos_lt_of_currentClass (h.wordGap hp).2) rfl
  · exact .charStart hp rfl
  · exact .stay (s.dacWrite_message _ _)
  · exact .stay rfl
  · exact .stay (s.dacWrite_message _ _)
  · exact h.runSymGap_message hp

/-- While a MORSE command is active no command is taken: the step is the sequencer's. -/
theorem Inv.step_of_active {s t : State} (h : Inv s) (hactive : s.phase ≠ .idle)
    (hstep : step s = .next t) : sequencerStep s = .next t := by
  have hb : s.busy = true := h.busy.2 hactive
  rcases step_cases hstep with ⟨rest, op, r, i, hb', -⟩ | ⟨rest, text, hb', -⟩ | hs
  · exact absurd hb (by simp [hb'])
  · exact absurd hb (by simp [hb'])
  · exact hs

/-- Settles O45: every way a step changes the message registers keeps the text, and consumes a byte only
where there is one. -/
theorem messageIsLatchedAndPositionAdvances : Obligations.MessageIsLatchedAndPositionAdvances := by
  intro s t h hactive hstep
  cases h.messageStep (h.step_of_active hactive hstep) with
  | stay hm | charGap _ hm | charStart _ hm =>
    have htxt : t.txt = s.txt := congrArg MessageRegs.txt hm
    have hpos : t.pos = s.pos := congrArg MessageRegs.pos hm
    exact ⟨htxt, .inl hpos, by rw [htxt, hpos]; exact h.pos⟩
  | skip hlt hm | wordGap _ hlt hm | lastSymbol _ hlt _ hm =>
    have htxt : t.txt = s.txt := congrArg MessageRegs.txt hm
    have hpos : t.pos = s.pos + 1 := congrArg MessageRegs.pos hm
    exact ⟨htxt, .inr hpos, by rw [htxt, hpos]; exact hlt⟩

/-- Settles O46: CHAR_GAP, WORD_GAP, CHAR_START and the last symbol's end are the only steps that change
a flag. -/
theorem gapFlagsChangeOnlyByTheirRules : Obligations.GapFlagsChangeOnlyByTheirRules := by
  intro s t h hactive hstep
  cases h.messageStep (h.step_of_active hactive hstep) with
  | stay hm | skip _ hm =>
    have hws : t.lastWS = s.lastWS := congrArg MessageRegs.lastWS hm
    have hgap : t.pendGap = s.pendGap := congrArg MessageRegs.pendGap hm
    simp +contextual [hws, hgap]
  | charGap hp hm =>
    have hws : t.lastWS = s.lastWS := congrArg MessageRegs.lastWS hm
    have hgap : t.pendGap = false := congrArg MessageRegs.pendGap hm
    simp +contextual [hws, hgap, hp]
  | wordGap hp _ hm =>
    have hws : t.lastWS = true := congrArg MessageRegs.lastWS hm
    have hgap : t.pendGap = false := congrArg MessageRegs.pendGap hm
    simp [hws, hgap, hp]
  | charStart hp hm =>
    have hws : t.lastWS = false := congrArg MessageRegs.lastWS hm
    have hgap : t.pendGap = s.pendGap := congrArg MessageRegs.pendGap hm
    simp +contextual [hws, hgap, hp]
  | lastSymbol hp _ hsym hm =>
    have hws : t.lastWS = s.lastWS := congrArg MessageRegs.lastWS hm
    have hgap : t.pendGap = true := congrArg MessageRegs.pendGap hm
    simp +contextual [hws, hgap, hp, hsym]

end Sys2Proof.Machine
end

section
/-! The transfer port and the device model (20_memory.md): what a call is answered, the length of every
command's transfer, and what a transfer that failed leaves as it was. -/

namespace Sys2Proof.Machine

/-! ## The response to a call (20_memory.md R50, R51) -/

/-- Without a handle every call fails (70_reset_and_hazards.md R229). -/
theorem State.reply_of_no_handle {s : State} (r : Request) (h : s.handle = false) :
    s.reply r = .iofail := by
  simp [State.reply, h]

/-- A call whose I/O fails. -/
theorem State.reply_of_iofail {s : State} (r : Request) (h : s.nextAnswer = .iofail) :
    s.reply r = .iofail := by
  simp [State.reply, h]

/-- A call that is answered, with a handle: the time alone decides (20_memory.md R51). -/
theorem State.reply_of_answer {s : State} (r : Request) {ms k : Nat} {draw : Bytes2}
    (hh : s.handle = true) (ha : s.nextAnswer = .ok ms k draw) :
    s.reply r = if ms ≤ timeoutMs then .ok k (s.received r k draw) else .iofail := by
  simp [State.reply, hh, ha]

/-- An answer after TIMEOUT_MS is none, handle or not (20_memory.md R51). -/
theorem State.reply_of_late {s : State} (r : Request) {ms k : Nat} {draw : Bytes2}
    (ha : s.nextAnswer = .ok ms k draw) (hms : timeoutMs < ms) : s.reply r = .iofail := by
  cases hh : s.handle with
  | false => exact s.reply_of_no_handle r hh
  | true => rw [s.reply_of_answer r hh ha, if_neg (by omega)]

/-- Success read off the response: it is `ok` with the expected length (20_memory.md R50). -/
theorem State.good_iff_reply (s : State) (r : Request) :
    s.good r = true ↔ ∃ k data, s.reply r = .ok k data ∧ k = r.expectedLen := by
  cases hr : s.reply r with
  | iofail => simp [State.good, hr, Reply.good]
  | ok k data => simp [State.good, hr, Reply.good]

/-- With a handle, the device can make any call succeed. -/
theorem State.good_of_prompt_answer {s : State} (r : Request) (hh : s.handle = true) :
    State.good { s with answers := [.ok 0 r.expectedLen default] } r = true :=
  (State.good_iff _ r).2 ⟨hh, 0, default, rfl, Nat.zero_le _⟩

/-- Settles O14: each clause is a rule about the response, the success rule among them. -/
theorem callSucceedsExactlyAtItsLength : Obligations.CallSucceedsExactlyAtItsLength := by
  intro s r
  refine ⟨rfl, ?success, s.reply_of_no_handle r, s.reply_of_iofail r, ?late, ?inTime, ?both⟩
  case success => cases r <;> exact s.good_iff_reply _
  case late => exact fun _ _ _ ha hms => s.reply_of_late r ha hms
  case inTime =>
    intro ms k draw hh ha hms
    exact ⟨_, (s.reply_of_answer r hh ha).trans (if_pos hms)⟩
  case both =>
    exact fun hh => ⟨⟨_, s.good_of_prompt_answer r hh⟩, .iofail, State.reply_of_iofail r rfl⟩

/-! ## Lengths (20_memory.md R62, 30_encoding.md R94) -/

/-- The length rule reads a control write's image by its wLength field. -/
theorem imageLength_ctrlOut (b : Byte) (v i : Half) {payload : List Byte} (h : payload.length < 2 ^ 16) :
    imageLength (Request.ctrlOut b v i payload).image =
      some (Request.ctrlOut b v i payload).image.length := by
  have hlen : (Request.ctrlOut b v i payload).image.length = 8 + payload.length := by
    simp [Request.image, le16]; omega
  have hfield : (byteAt (Request.ctrlOut b v i payload).image 7 ++
      byteAt (Request.ctrlOut b v i payload).image 6 : Half) = BitVec.ofNat 16 payload.length :=
    hi8_append_lo8 _
  have hhead : byteAt (Request.ctrlOut b v i payload).image 0 = 0x40#8 := rfl
  rw [imageLength, hlen, hfield, hhead, if_neg (by omega), if_pos rfl, BitVec.toNat_ofNat,
    Nat.mod_eq_of_lt h]

/-- A control read's image is its setup alone. -/
theorem imageLength_ctrlIn (b : Byte) (v i : Half) (n : Nat) :
    imageLength (Request.ctrlIn b v i n).image = some (Request.ctrlIn b v i n).image.length := rfl

/-- The little-endian length field of the bulk envelope, read back. -/
theorem le32_readBack (n : BitVec 32) :
    (n.extractLsb' 24 8 ++ n.extractLsb' 16 8 ++ n.extractLsb' 8 8 ++ n.extractLsb' 0 8 : BitVec 32) = n := by
  apply BitVec.eq_of_getLsbD_eq
  intro i hi
  simp only [BitVec.getLsbD_append, BitVec.getLsbD_extractLsb']
  interval_cases i <;> simp

/-- The length rule reads a bulk image by the length field of its envelope. -/
theorem imageLength_bulkWrite {payload : List Byte} (h : payload.length < 2 ^ 32) :
    imageLength (bulkWrite payload).image = some (bulkWrite payload).image.length := by
  have hlen : (bulkWrite payload).image.length = 8 + payload.length := by
    simp [bulkWrite, Request.image, envelope, le32]; omega
  have hfield : (byteAt (bulkWrite payload).image 7 ++ byteAt (bulkWrite payload).image 6 ++
      byteAt (bulkWrite payload).image 5 ++ byteAt (bulkWrite payload).image 4 : BitVec 32) =
      BitVec.ofNat 32 payload.length := le32_readBack _
  have hhead : byteAt (bulkWrite payload).image 0 = 0x00#8 := rfl
  rw [imageLength, hlen, hfield, hhead, if_neg (by omega), if_neg (by decide), if_neg (by decide),
    if_pos rfl, BitVec.toNat_ofNat, Nat.mod_eq_of_lt h]

/-- Settles O5, command by command: the length rule of its request's format, and the length of its
payload. -/
theorem everyCommandMovesItsFixedLength : Obligations.EveryCommandMovesItsFixedLength := by
  intro p i r hr
  cases i with
  | spiMode | csSelect | csDisable | delayDisable | otpLock | reset
  | gpioSetB0b0 | gpioSetB0b2 | gpioSetB1b5 | gpioSetB1b6 | gpioSetB1b7 =>
    cases hr
    exact ⟨imageLength_ctrlOut _ _ _ (by simp [Bytes2.toList]), rfl⟩
  | gpioGet | otpQuery =>
    cases hr
    exact ⟨imageLength_ctrlIn _ _ _ _, rfl⟩
  | ddsFreq0 | ddsFreq1 | ddsPhase0 | ddsPhase1 | ddsAmp | ddsShape =>
    cases hr
    exact ⟨imageLength_bulkWrite (by simp [be16]), rfl⟩
  | morse | seqPrecheck | seqEnd | seqSkipWs | seqSkipUnmapped | seqCharGap | seqWordGap
  | seqCharStart | seqDot | seqDash => cases hr

/-! ## Bridge writes (20_memory.md R63 to R65): what each leaves as it was -/

section
variable {good : Bool} {f d : Device} {ch : Byte} {c : Channel}

theorem spiModeWrite_of_channel (h : channelOf ch = some c) (w : Byte) :
    spiModeWrite good f d ch w =
      { d with spiword := channelSet d.spiword c (if good then w else channelGet f.spiword c) } := by
  simp [spiModeWrite, h]

theorem delayDisableWrite_of_channel (h : channelOf ch = some c) :
    delayDisableWrite good f d ch =
      { d with delays := channelSet d.delays c (if good then .zero else channelGet f.delays c) } := by
  simp [delayDisableWrite, h]

theorem csDisableWrite_of_channel (h : channelOf ch = some c) :
    csDisableWrite good f d ch =
      { d with cs := channelSet d.cs c (if good then false else channelGet f.cs c) } := by
  simp [csDisableWrite, h]

theorem csSelectWrite_frame :
    csSelectWrite good f d ch = { d with cs := (csSelectWrite good f d ch).cs } := by
  unfold csSelectWrite
  split <;> rfl

theorem csDisableWrite_frame :
    csDisableWrite good f d ch = { d with cs := (csDisableWrite good f d ch).cs } := by
  unfold csDisableWrite
  split <;> rfl

theorem otpLockWrite_frame : otpLockWrite good f d = { d with otp := (otpLockWrite good f d).otp } := by
  unfold otpLockWrite
  split_ifs <;> rfl

end

/-- A masked write leaves every bit outside the mask. -/
theorem masked_getLsbD_of_unmasked (old new : Byte) {m : Byte} {k : Nat} (h : m.getLsbD k = false) :
    ((old &&& ~~~m) ||| (new &&& m)).getLsbD k = old.getLsbD k := by
  simp only [BitVec.getLsbD_or, BitVec.getLsbD_and, BitVec.getLsbD_not, h]
  by_cases hk : k < 8
  · simp [hk]
  · simp [BitVec.getLsbD_of_ge _ _ (Nat.le_of_not_lt hk)]

/-- The mask byte that holds the pin has the pin's bit alone. -/
theorem pinBit_getLsbD {pin : Pin} {k : Nat} (hk : k ≠ pin.bitIndex) :
    (1#8 <<< pin.bitIndex).getLsbD k = false := by
  rw [← BitVec.twoPow_eq, BitVec.getLsbD_twoPow]
  simp [hk.symm]

theorem gpioMask_b0_getLsbD {pin : Pin} {k : Nat} (h : pin.byteIndex ≠ 0 ∨ k ≠ pin.bitIndex) :
    (gpioMask pin).b0.getLsbD k = false := by
  by_cases hp : pin.byteIndex = 0
  · simpa [gpioMask, Pin.place, hp] using pinBit_getLsbD (h.resolve_left (not_not_intro hp))
  · simp [gpioMask, Pin.place, hp]

theorem gpioMask_b1_getLsbD {pin : Pin} {k : Nat} (h : pin.byteIndex ≠ 1 ∨ k ≠ pin.bitIndex) :
    (gpioMask pin).b1.getLsbD k = false := by
  by_cases hp : pin.byteIndex = 0
  · simp [gpioMask, Pin.place, hp]
  · have hp1 : pin.byteIndex = 1 := by cases pin <;> simp_all [Pin.byteIndex]
    simpa [gpioMask, Pin.place, hp] using pinBit_getLsbD (h.resolve_left (not_not_intro hp1))

/-- A GPIO write of one pin changes that pin's lane alone (42_gpio.md R119). -/
theorem maskedBytes_onlyLane (pin : Pin) (old new : Bytes2) :
    onlyLane pin old (maskedBytes old new (gpioMask pin)) :=
  ⟨fun _ h => masked_getLsbD_of_unmasked _ _ (gpioMask_b0_getLsbD h),
    fun _ h => masked_getLsbD_of_unmasked _ _ (gpioMask_b1_getLsbD h)⟩

/-! ## SPI words (30_encoding.md R83): which registers a failed transfer frees -/

section
variable {f d0 d : Dds} {w : Half}

/-- A frequency word addresses the register of its tag. -/
theorem ddsWordTouched_freq {reg : FreqReg} (h : w.extractLsb' 14 2 = reg.tag) :
    ddsWordTouched f d0 d w = freqWordTouched f d0 d reg := by
  cases reg <;> simp [ddsWordTouched, h, FreqReg.tag]

/-- A word with `w[15:14]` = 0 addresses the control register. -/
theorem ddsWordTouched_ctrl (h : w.extractLsb' 14 2 = 0b00#2) :
    ddsWordTouched f d0 d w = { d with ctrl := f.ctrl } := by
  simp [ddsWordTouched, h]

/-- `w[15:14]` is the upper half of `w[15:12]`. -/
theorem extract_top2 (w : Half) : w.extractLsb' 14 2 = (w.extractLsb' 12 4).extractLsb' 2 2 := by
  apply BitVec.eq_of_getLsbD_eq
  intro i hi
  interval_cases i <;> simp

/-- `w[13]` is bit 1 of `w[15:12]`. -/
theorem getLsbD_13 (w : Half) : w.getLsbD 13 = (w.extractLsb' 12 4).getLsbD 1 := by simp

theorem ddsWordTouched_phase0 (h : w.extractLsb' 12 4 = PhaseReg.phase0.tag) :
    ddsWordTouched f d0 d w = { d with phase0 := f.phase0 } := by
  simp only [ddsWordTouched, extract_top2, getLsbD_13, h]
  rfl

theorem ddsWordTouched_phase1 (h : w.extractLsb' 12 4 = PhaseReg.phase1.tag) :
    ddsWordTouched f d0 d w = { d with phase1 := f.phase1 } := by
  simp only [ddsWordTouched, extract_top2, getLsbD_13, h]
  rfl

end

section
variable {f d : Dds} {reg : FreqReg}

/-- The two words of DDS_FREQ, the latch empty or held by the register written (44_dds.md R146). -/
theorem freqWordTouched_pair_of_latch (hb : b28 d = true)
    (hl : ∀ other low, d.lsw = some (other, low) → other = reg) :
    freqWordTouched f d (freqWordTouched f d d reg) reg = freeFreq f d reg := by
  have htouch (e : Dds) : freqWordTouched f d e reg = freeFreq f e reg := by
    cases hlsw : d.lsw with
    | none => simp [freqWordTouched, hb, hlsw]
    | some l => simp [freqWordTouched, hb, hlsw, hl l.1 l.2 hlsw]
  rw [htouch, htouch]
  cases reg <;> rfl

/-- The two words of DDS_FREQ, whatever the latch holds: no register but the frequency registers. -/
theorem freqWordTouched_pair (hb : b28 d = true) :
    freqWordTouched f d (freqWordTouched f d d reg) reg =
      freeFreqs (freqWordTouched f d (freqWordTouched f d d reg) reg) d := by
  by_cases hl : ∀ other low, d.lsw = some (other, low) → other = reg
  · rw [freqWordTouched_pair_of_latch hb hl]
    cases reg <;> rfl
  · push Not at hl
    obtain ⟨other, low, hlsw, hne⟩ := hl
    simp [freqWordTouched, hb, hlsw, hne, freeFreqs]

end

/-! ## A bulk transfer that failed (20_memory.md R53, R66, R67) -/

section
variable {p : Params} {f d : Device} {ws : List Half} {c : Channel}

theorem bulkFailed_frame :
    bulkFailed p f d ws =
      { d with dds := (bulkFailed p f d ws).dds, amp := (bulkFailed p f d ws).amp } := by
  unfold bulkFailed
  split <;> rfl

theorem bulkFailed_dds_of_ne (hc : soleChannel d.cs = some c) (hne : c ≠ p.ddsChannel) :
    (bulkFailed p f d ws).dds = d.dds := by
  simp [bulkFailed, hc, hne]

theorem bulkFailed_amp_of_ne (hc : soleChannel d.cs = some c) (hne : c ≠ p.ampChannel) :
    (bulkFailed p f d ws).amp = d.amp := by
  simp [bulkFailed, hc, hne]

theorem bulkFailed_dds (hc : soleChannel d.cs = some p.ddsChannel) :
    (bulkFailed p f d ws).dds = ws.foldl (fun e w => ddsWordTouched f.dds d.dds e w) d.dds := by
  simp [bulkFailed, hc]

theorem bulkFailed_ddsFreq (hc : soleChannel d.cs = some p.ddsChannel) (reg : FreqReg) (v : BitVec 28) :
    (bulkFailed p f d [freqWordLow reg v, freqWordHigh reg v]).dds =
      freqWordTouched f.dds d.dds (freqWordTouched f.dds d.dds d.dds reg) reg := by
  have hlow : (freqWordLow reg v).extractLsb' 14 2 = reg.tag := extract_append_high _ _
  have hhigh : (freqWordHigh reg v).extractLsb' 14 2 = reg.tag := extract_append_high _ _
  simp only [bulkFailed_dds hc, List.foldl_cons, List.foldl_nil, ddsWordTouched_freq hlow,
    ddsWordTouched_freq hhigh]

theorem bulkFailed_ddsPhase0 (hc : soleChannel d.cs = some p.ddsChannel) (v : BitVec 12) :
    (bulkFailed p f d [phaseWord .phase0 v]).dds = { d.dds with phase0 := f.dds.phase0 } :=
  (bulkFailed_dds hc).trans (ddsWordTouched_phase0 (extract_append_high _ _))

theorem bulkFailed_ddsPhase1 (hc : soleChannel d.cs = some p.ddsChannel) (v : BitVec 12) :
    (bulkFailed p f d [phaseWord .phase1 v]).dds = { d.dds with phase1 := f.dds.phase1 } :=
  (bulkFailed_dds hc).trans (ddsWordTouched_phase1 (extract_append_high _ _))

/-- A failed DDS_SHAPE, or a DDS_AMP that reaches the DDS (20_memory.md R66). -/
theorem bulkFailed_ctrl (hc : soleChannel d.cs = some p.ddsChannel) {w : Half}
    (hw : w.extractLsb' 14 2 = 0b00#2) :
    (bulkFailed p f d [w]).dds = { d.dds with ctrl := f.dds.ctrl } :=
  (bulkFailed_dds hc).trans (ddsWordTouched_ctrl hw)

end

/-! ## A command whose call failed (20_memory.md R53) -/

theorem gpioSetInstr_wf {pin : Pin} {level : Nat} : (gpioSetInstr pin level).wf = true ↔ level < 2 := by
  cases pin <;> exact decide_eq_true_iff

/-- The request of a well-formed SPI_MODE at the device. -/
theorem deviceAfter_spiMode_of_wf {p : Params} {n ch cpol cpha : Nat} {good : Bool} {d : Device}
    (hw : (Instr.spiMode ch cpol cpha).wf = true) :
    deviceAfter p n (spiModeRequest ch cpol cpha) good d =
      spiModeWrite good (Config.freeDevice n 0) d (BitVec.ofNat 8 ch) (spiModeWord cpol cpha) := by
  simp only [Instr.wf, Bool.and_eq_true, decide_eq_true_eq] at hw
  obtain ⟨⟨-, hcpol⟩, hcpha⟩ := hw
  exact deviceAfter_spiMode ch hcpol hcpha

/-- The bulk request of a command carries SPI words: a failed call is that of a bulk payload. -/
theorem deviceAfter_failed_bulk {i : Instr} {p : Params} {r : Request} {e : Byte}
    (hr : i.request p = some r) (hw : i.wf = true) (hb : r.ident = .bulkOut e) (n : Nat) (d : Device) :
    ∃ ws, deviceAfter p n r false d = bulkFailed p (Config.freeDevice n 0) d ws := by
  cases i with
  | ddsFreq0 | ddsFreq1 => cases hr; exact ⟨_, deviceAfter_ddsFreq _ _⟩
  | ddsPhase0 | ddsPhase1 => cases hr; exact ⟨_, deviceAfter_ddsPhase _ _⟩
  | ddsAmp => cases hr; exact ⟨_, deviceAfter_ddsAmp _ (of_decide_eq_true hw)⟩
  | ddsShape => cases hr; exact ⟨_, deviceAfter_ddsShape _⟩
  | spiMode | csSelect | csDisable | delayDisable | otpLock | reset | gpioGet | otpQuery
  | gpioSetB0b0 | gpioSetB0b2 | gpioSetB1b5 | gpioSetB1b6 | gpioSetB1b7 => cases hr; cases hb
  | morse | seqPrecheck | seqEnd | seqSkipWs | seqSkipUnmapped | seqCharGap | seqWordGap
  | seqCharStart | seqDot | seqDash => cases hr

/-- What a command whose call failed leaves of the device, by its request. -/
theorem exec_failed_dev {i : Instr} {s t : State} {r : Request} (hr : i.request s.params = some r)
    (he : exec i s = .next t) (hg : s.good r = false) :
    i.wf = true ∧ t.dev = deviceAfter s.params s.calls r false s.dev := by
  obtain ⟨op, -, hexec⟩ := exec_of_request hr
  obtain ⟨-, hw, rfl⟩ := portCommand_next.1 (hexec.symm.trans he)
  exact ⟨hw, by rw [State.exec1_dev, hg]⟩

/-- A failed DDS_FREQ with DDS_CHANNEL selected (44_dds.md R146). -/
theorem failed_ddsFreq_dds {s t : State} {reg : FreqReg} {v : Nat}
    (hdev : t.dev = deviceAfter s.params s.calls (ddsFreqRequest reg v) false s.dev)
    (hc : soleChannel s.dev.cs = some s.params.ddsChannel) (hb : b28 s.dev.dds = true) :
    ((∀ other low, s.dev.dds.lsw = some (other, low) → other = reg) →
      t.dev.dds = freeFreq t.dev.dds s.dev.dds reg) ∧
    t.dev.dds = freeFreqs t.dev.dds s.dev.dds := by
  have hdds := (congrArg Device.dds (hdev.trans (deviceAfter_ddsFreq reg v))).trans
    (bulkFailed_ddsFreq hc reg _)
  refine ⟨fun hl => ?_, ?_⟩
  · rw [hdds, freqWordTouched_pair_of_latch hb hl]
    cases reg <;> rfl
  · rw [hdds]
    exact freqWordTouched_pair hb

/-- Settles O33: for each command, the lemma about its write at the device, in the failed case. -/
theorem failedTransferTouchesOnlyItsFields : Obligations.FailedTransferTouchesOnlyItsFields := by
  intro i s t r hr he hg
  obtain ⟨hw, hdev⟩ := exec_failed_dev hr he hg
  refine ⟨?reads, ?spiMode, ?delays0, ?delays1, ?cs, ?csDisable0, ?csDisable1, ?gpio, ?otp, ?reset,
    ?bulk, fun hc => ⟨?freq, ?phase0, ?phase1, ?ctrl⟩⟩
  case reads => rintro (rfl | rfl) <;> cases hr <;> exact hdev
  case spiMode =>
    refine fun cpol cpha => ⟨?_, ?_⟩ <;> rintro rfl <;> cases hr <;>
      rw [hdev, deviceAfter_spiMode_of_wf hw, spiModeWrite_of_channel rfl] <;> rfl
  case delays0 | delays1 =>
    rintro rfl; cases hr
    rw [hdev, deviceAfter_delayDisable, delayDisableWrite_of_channel rfl]; rfl
  case cs =>
    rintro ch (rfl | rfl) <;> cases hr
    · rw [hdev, deviceAfter_csSelect]
      exact csSelectWrite_frame
    · rw [hdev, deviceAfter_csDisable]
      exact csDisableWrite_frame
  case csDisable0 | csDisable1 =>
    rintro rfl; cases hr
    rw [hdev, deviceAfter_csDisable, csDisableWrite_of_channel rfl]; rfl
  case gpio =>
    rintro pin level rfl
    cases (gpioSetInstr_request _ _ _).symm.trans hr
    rw [hdev, deviceAfter_gpioSet pin (gpioSetInstr_wf.1 hw)]
    exact ⟨rfl, maskedBytes_onlyLane pin _ _⟩
  case otp =>
    rintro rfl; cases hr
    rw [hdev, deviceAfter_otpLock]
    exact otpLockWrite_frame
  case reset =>
    rintro rfl; cases hr
    rw [hdev, deviceAfter_reset]; rfl
  case bulk =>
    intro e hb
    obtain ⟨ws, hws⟩ := deviceAfter_failed_bulk hr hw hb s.calls s.dev
    rw [hdev, hws]
    exact ⟨bulkFailed_frame, fun c hc => ⟨bulkFailed_dds_of_ne hc, bulkFailed_amp_of_ne hc⟩⟩
  case freq =>
    rintro (_ | _) v rfl hb <;> cases hr <;> exact failed_ddsFreq_dds hdev hc hb
  case phase0 =>
    rintro v rfl; cases hr
    rw [hdev, deviceAfter_ddsPhase, if_neg (by decide), bulkFailed_ddsPhase0 hc]
  case phase1 =>
    rintro v rfl; cases hr
    rw [hdev, deviceAfter_ddsPhase, if_neg (by decide), bulkFailed_ddsPhase1 hc]
  case ctrl =>
    rintro v shape (rfl | rfl) <;> cases hr
    · rw [hdev, deviceAfter_ddsShape, if_neg (by decide),
        bulkFailed_ctrl hc (by cases shape <;> decide)]
    · have hv : v < 2 ^ 10 := of_decide_eq_true hw
      have htop : (ampWord s.params.ampShift v).extractLsb' 14 2 = 0b00#2 := by
        rw [extract_top2, ampWord_top _ _ hv]; rfl
      rw [hdev, deviceAfter_ddsAmp _ hv, if_neg (by decide), bulkFailed_ctrl hc htop]

end Sys2Proof.Machine
end

section
/-! The encoder and the decoder are inverse (30_encoding.md R75 to R96): the rows of the opcode table are
disjoint, every image matches the row of its instruction, and what matches a row is such an image. -/

namespace Sys2Proof

open Machine

/-! ## Rows are disjoint (30_encoding.md R93) -/

/-- Bytes of the pattern's length that are the pattern under the mask. -/
def MaskedMatch (bs mask pattern : List Byte) : Prop :=
  bs.length = pattern.length ∧ List.zipWith (· &&& ·) bs mask = pattern

theorem Row.hits_iff {row : Row} {bs : List Byte} :
    row.hits bs = true ↔ MaskedMatch bs row.mask row.pattern := by
  simp [Row.hits, MaskedMatch]

/-- Whether two rows agree on their lengths and on every bit that both of them match. -/
def Row.overlaps (a b : Row) : Bool :=
  a.pattern.length = b.pattern.length &&
    List.zipWith (· &&& ·) a.pattern b.mask = List.zipWith (· &&& ·) b.pattern a.mask

/-- Masking in either order is the same. -/
theorem zipWith_and_right_comm (bs ms ns : List Byte) :
    List.zipWith (· &&& ·) (List.zipWith (· &&& ·) bs ms) ns =
      List.zipWith (· &&& ·) (List.zipWith (· &&& ·) bs ns) ms := by
  induction bs generalizing ms ns with
  | nil => simp
  | cons b bs ih =>
    match ms, ns with
    | [], _ | _ :: _, [] => simp
    | m :: ms, n :: ns => simp [ih, BitVec.and_assoc, BitVec.and_comm m n]

/-- A byte string that matches two rows makes them overlap. -/
theorem Row.overlaps_of_hits {a b : Row} {bs : List Byte} (ha : a.hits bs = true)
    (hb : b.hits bs = true) : a.overlaps b = true := by
  obtain ⟨hlenA, hbitsA⟩ := Row.hits_iff.1 ha
  obtain ⟨hlenB, hbitsB⟩ := Row.hits_iff.1 hb
  have hbits : List.zipWith (· &&& ·) a.pattern b.mask = List.zipWith (· &&& ·) b.pattern a.mask := by
    rw [← hbitsA, ← hbitsB, zipWith_and_right_comm]
  simp [Row.overlaps, ← hlenA, ← hlenB, hbits]

/-- No two rows of the table overlap: the one evaluation of the whole table. -/
theorem rows_pairwise : rows.Pairwise fun a b => a.overlaps b = false := by decide

/-- Settles O4: two rows that match would overlap. -/
theorem noImageMatchesTwoRows : Obligations.NoImageMatchesTwoRows := by
  intro bs
  have hpair := rows_pairwise.filter (fun row => row.hits bs)
  have hhits : ∀ row ∈ rows.filter (fun row => row.hits bs), row.hits bs = true :=
    fun row hrow => (List.mem_filter.1 hrow).2
  match hl : rows.filter (fun row => row.hits bs) with
  | [] | [_] => simp [hl]
  | a :: b :: _ =>
    rw [hl] at hpair hhits
    have hover : a.overlaps b = true := Row.overlaps_of_hits (hhits a (by simp)) (hhits b (by simp))
    simp [hover] at hpair

/-- The decoder finds any row that matches. -/
theorem find?_hits {row : Row} {bs : List Byte} (hmem : row ∈ rows) (hhits : row.hits bs = true) :
    rows.find? (fun row => row.hits bs) = some row := by
  rw [← List.head?_filter]
  have hrow : row ∈ rows.filter (fun row => row.hits bs) := List.mem_filter.2 ⟨hmem, hhits⟩
  match hl : rows.filter (fun row => row.hits bs), noImageMatchesTwoRows bs with
  | [], _ => simp [hl] at hrow
  | [a], _ => simpa [hl, eq_comm] using hrow
  | _ :: _ :: _, hle => simp [hl] at hle

/-- The row matches the byte string and builds the instruction from it. -/
def Row.Reads (row : Row) (sh : AmpShift) (bs : List Byte) (i : Instr) : Prop :=
  row.hits bs = true ∧ row.build sh bs = some i

/-- What the decoder answers: the instruction that some row reads, where the length is right. -/
theorem decode_eq_ok_iff_row {sh : AmpShift} {bs : List Byte} {i : Instr} :
    decode sh bs = .ok i ↔
      imageLength bs = some bs.length ∧ ∃ row ∈ rows, row.Reads sh bs i := by
  unfold decode
  split
  case isFalse hlen => simp [hlen]
  case isTrue hlen =>
    constructor
    · intro h
      split at h
      case h_2 => cases h
      case h_1 row hfind =>
        have hhits : row.hits bs = true := by simpa using List.find?_some hfind
        refine ⟨hlen, row, List.mem_of_find?_eq_some hfind, hhits, ?_⟩
        split at h <;> cases h
        assumption
    · rintro ⟨-, row, hmem, hhits, hbuild⟩
      simp only [find?_hits hmem hhits, hbuild]

/-! ## What matches a row: its header, then its payload byte by byte -/

theorem and_ff (b : Byte) : b &&& 255#8 = b := BitVec.and_allOnes

theorem maskedMatch_nil {bs : List Byte} : MaskedMatch bs [] [] ↔ bs = [] := by
  simp [MaskedMatch]

/-- The first byte of a match, and the rest. -/
theorem maskedMatch_cons {bs ms ps : List Byte} {m p : Byte} :
    MaskedMatch bs (m :: ms) (p :: ps) ↔ ∃ b t, bs = b :: t ∧ b &&& m = p ∧ MaskedMatch t ms ps := by
  cases bs with
  | nil => simp [MaskedMatch]
  | cons b t => simp [MaskedMatch, and_left_comm]

/-- A word by its two bytes. -/
theorem exists_half {P : Byte → Byte → Prop} :
    (∃ hi lo, P hi lo) ↔ ∃ w : Half, P (hi8 w) (lo8 w) := by
  refine ⟨fun ⟨hi, lo, h⟩ => ⟨hi ++ lo, ?_⟩, fun ⟨w, h⟩ => ⟨_, _, h⟩⟩
  rwa [show hi8 (hi ++ lo) = hi from extract_append_high hi lo,
    show lo8 (hi ++ lo) = lo from extract_append_low hi lo]

/-- The first word of a match, and the rest. -/
theorem maskedMatch_word {bs ms ps : List Byte} {mh ml ph pl : Byte} :
    MaskedMatch bs (mh :: ml :: ms) (ph :: pl :: ps) ↔
      ∃ w t, bs = be16 w ++ t ∧ hi8 w &&& mh = ph ∧ lo8 w &&& ml = pl ∧ MaskedMatch t ms ps := by
  refine Iff.trans ?_ (exists_half (P := fun hi lo =>
    ∃ t, bs = [hi, lo] ++ t ∧ hi &&& mh = ph ∧ lo &&& ml = pl ∧ MaskedMatch t ms ps))
  simp only [maskedMatch_cons]
  constructor
  · rintro ⟨hi, _, rfl, hhi, lo, t, rfl, hlo, ht⟩
    exact ⟨hi, lo, t, rfl, hhi, hlo, ht⟩
  · rintro ⟨hi, lo, t, rfl, hhi, hlo, ht⟩
    exact ⟨hi, _, rfl, hhi, lo, t, rfl, hlo, ht⟩

/-- A header of which every bit is matched. -/
theorem maskedMatch_header {bs header ms ps : List Byte} :
    MaskedMatch bs (List.replicate header.length 255#8 ++ ms) (header ++ ps) ↔
      ∃ t, bs = header ++ t ∧ MaskedMatch t ms ps := by
  induction header generalizing bs with
  | nil => simp
  | cons b header ih =>
    simp only [List.length_cons, List.replicate_succ, List.cons_append, maskedMatch_cons, and_ff, ih]
    constructor
    · rintro ⟨_, _, rfl, rfl, t, rfl, ht⟩
      exact ⟨t, rfl, ht⟩
    · rintro ⟨t, rfl, ht⟩
      exact ⟨_, _, rfl, rfl, t, rfl, ht⟩

/-- A byte string of which every bit is matched. -/
theorem maskedMatch_all {bs ps : List Byte} :
    MaskedMatch bs (List.replicate ps.length 255#8) ps ↔ bs = ps := by
  simpa [maskedMatch_nil] using maskedMatch_header (bs := bs) (header := ps) (ms := []) (ps := [])

section
variable {row : Row} {bs ms ps : List Byte}

/-- A row of the control writes with wValue 0. -/
theorem hits_plainOut {b : Byte} (hp : row.pattern = (plainOut b ps).image)
    (hm : row.mask = List.replicate 8 255#8 ++ ms) :
    row.hits bs = true ↔ ∃ payload, bs = (plainOut b payload).image ∧ MaskedMatch payload ms ps := by
  rw [Row.hits_iff, hm, hp]
  refine maskedMatch_header.trans (exists_congr fun payload => and_congr_left fun hmatch => ?_)
  rw [← hmatch.1]
  rfl

/-- A row of the bulk writes. -/
theorem hits_bulkWrite (hp : row.pattern = (bulkWrite ps).image)
    (hm : row.mask = List.replicate 8 255#8 ++ ms) :
    row.hits bs = true ↔ ∃ payload, bs = (bulkWrite payload).image ∧ MaskedMatch payload ms ps := by
  rw [Row.hits_iff, hm, hp]
  refine maskedMatch_header.trans (exists_congr fun payload => and_congr_left fun hmatch => ?_)
  rw [← hmatch.1]
  rfl

end

/-! ## Operand fields (30_encoding.md R78 to R83, R89 to R92) -/

/-- A word is a tag and a value exactly when its two fields are. -/
theorem eq_append_iff {n m : Nat} {w : BitVec (n + m)} {t : BitVec n} {x : BitVec m} :
    w = t ++ x ↔ w.extractLsb' m n = t ∧ w.extractLsb' 0 m = x := by
  constructor
  · rintro rfl
    exact ⟨extract_append_high t x, extract_append_low t x⟩
  · rintro ⟨rfl, rfl⟩
    exact (append_extract w).symm

/-- Bit `k` of a byte that has no other bit, as a level. -/
theorem lane_iff {b : Byte} {k level : Nat} (hk : k < 8) :
    (b &&& ~~~(1#8 <<< k) = 0#8 ∧ (if b.getLsbD k then 1 else 0) = level) ↔
      level < 2 ∧ b = BitVec.ofNat 8 level <<< k := by
  constructor
  · rintro ⟨hmask, rfl⟩
    refine ⟨by split <;> decide, BitVec.eq_of_getLsbD_eq fun j hj => ?_⟩
    have hbit : (b &&& ~~~(1#8 <<< k)).getLsbD j = false := by simp [hmask]
    have hlane : b.getLsbD j = (decide (j = k) && b.getLsbD k) := by
      rw [← BitVec.twoPow_eq] at hbit
      by_cases hjk : j = k
      · simp [hjk]
      · simpa [hj, BitVec.getLsbD_twoPow, hjk, Ne.symm hjk] using hbit
    rw [hlane]
    cases b.getLsbD k
    · simp
    · simp only [Bool.and_true, if_true]
      rw [← BitVec.twoPow_eq, BitVec.getLsbD_twoPow]
      simp [hk, eq_comm]
  · rintro ⟨hlevel, rfl⟩
    interval_cases level <;> interval_cases k <;> decide

/-- The data pair of a pin: no bit outside the pin's lane, and the level in it (30_encoding.md R81). -/
theorem gpioData_iff {pin : Pin} {d : Bytes2} {level : Nat} :
    (d.b0 &&& ~~~(gpioMask pin).b0 = 0#8 ∧ d.b1 &&& ~~~(gpioMask pin).b1 = 0#8 ∧
      (if pinLevel pin d then 1 else 0) = level) ↔ level < 2 ∧ d = gpioData pin level := by
  have hk : pin.bitIndex < 8 := by cases pin <;> decide
  have hff (b : Byte) : b &&& ~~~0#8 = b := BitVec.and_allOnes
  obtain ⟨b0, b1⟩ := d
  by_cases h0 : pin.byteIndex = 0
  · simp only [gpioMask, gpioData, pinLevel, Pin.place, h0, if_true, hff, Bytes2.mk.injEq]
    rw [← and_assoc (a := level < 2), ← lane_iff hk]
    tauto
  · simp only [gpioMask, gpioData, pinLevel, Pin.place, h0, if_false, hff, Bytes2.mk.injEq]
    rw [and_left_comm (a := level < 2), ← lane_iff hk]

/-- The SPI-mode control word by its fixed bits and its two fields (30_encoding.md R78). -/
theorem spiModeWord_iff {w : Byte} {cpol cpha : Nat} :
    (w &&& 0xCF#8 = 0x08#8 ∧ (if w.getLsbD 4 then 1 else 0) = cpol ∧
      (if w.getLsbD 5 then 1 else 0) = cpha) ↔
      cpol < 2 ∧ cpha < 2 ∧ w = spiModeWord cpol cpha := by
  constructor
  · rintro ⟨hfixed, rfl, rfl⟩
    refine ⟨by split <;> decide, by split <;> decide, ?_⟩
    revert w
    decide
  · rintro ⟨hcpol, hcpha, rfl⟩
    interval_cases cpol <;> interval_cases cpha <;> decide

theorem hi8_tag2_iff {w : Half} {t : BitVec 2} :
    hi8 w &&& 0xC0#8 = t ++ 0#6 ↔ w.extractLsb' 14 2 = t := by
  rw [show hi8 w &&& 0xC0#8 = w.extractLsb' 14 2 ++ 0#6 by
    rw [← hi8_tag2 _ (w.extractLsb' 0 14), append_extract (n := 2) (m := 14) w], BitVec.append_left_inj]

theorem hi8_tag4_iff {w : Half} {t : BitVec 4} :
    hi8 w &&& 0xF0#8 = t ++ 0#4 ↔ w.extractLsb' 12 4 = t := by
  rw [show hi8 w &&& 0xF0#8 = w.extractLsb' 12 4 ++ 0#4 by
    rw [← hi8_tag4 _ (w.extractLsb' 0 12), append_extract (n := 4) (m := 12) w], BitVec.append_left_inj]

/-- The two words of a frequency by their tags and the value they carry (30_encoding.md R89). -/
theorem freqWords_iff {w0 w1 : Half} {reg : FreqReg} {v : BitVec 28} :
    (w0.extractLsb' 14 2 = reg.tag ∧ w1.extractLsb' 14 2 = reg.tag ∧
      w1.extractLsb' 0 14 ++ w0.extractLsb' 0 14 = v) ↔
      w0 = freqWordLow reg v ∧ w1 = freqWordHigh reg v := by
  unfold freqWordLow freqWordHigh
  rw [eq_append_iff (n := 2) (m := 14), eq_append_iff (n := 2) (m := 14), eq_comm (b := v),
    eq_append_iff (n := 14) (m := 14)]
  tauto

/-- The amplitude word by the amplitude the decoder reads (30_encoding.md R91). -/
theorem ampValue_eq_some_iff {sh : AmpShift} {w : Half} {v : Nat} :
    ampValue? sh w = some v ↔ v < 2 ^ 10 ∧ w = ampWord sh v := by
  constructor
  · intro h
    have hval : v < 2 ^ 10 ∧ w.toNat = v * 2 ^ sh.places := by
      unfold ampValue? at h
      split_ifs at h with hzero hfit
      · cases h; simp [hzero]
      · cases h
        exact ⟨hfit.2, (Nat.div_mul_cancel (Nat.dvd_of_mod_eq_zero hfit.1)).symm⟩
    exact ⟨hval.1, BitVec.eq_of_toNat_eq (hval.2.trans (ampWord_toNat sh v hval.1).symm)⟩
  · rintro ⟨hv, rfl⟩
    exact ampValue_ampWord sh v hv

/-! ## The rows, each as the images of its instruction

`rows[k]` is row `k`, from 0, of the table's rows that have an image. -/

section
variable {row : Row} {sh : AmpShift} {bs : List Byte} {i : Instr}

/-- A row without a free bit. -/
theorem reads_fixed {j : Instr} (hm : row.mask = List.replicate row.pattern.length 255#8)
    (hbuild : ∀ bs, row.build sh bs = some j) : row.Reads sh bs i ↔ i = j ∧ bs = row.pattern := by
  rw [Row.Reads, Row.hits_iff, hm, maskedMatch_all, hbuild]
  simp [eq_comm, and_comm]

/-- A row of the control writes that carries a channel byte, then fixed bytes. -/
theorem reads_channel {b : Byte} {rest : List Byte} {mk : Nat → Instr}
    (hp : row.pattern = (plainOut b (0#8 :: rest)).image)
    (hm : row.mask = List.replicate 8 255#8 ++ 0#8 :: List.replicate rest.length 255#8)
    (hbuild : ∀ bs, row.build sh bs = some (mk (byteAt bs 8).toNat)) :
    row.Reads sh bs i ↔ ∃ ch, ch < 256 ∧ i = mk ch ∧
      bs = (plainOut b (BitVec.ofNat 8 ch :: rest)).image := by
  rw [Row.Reads, hits_plainOut hp hm, hbuild]
  simp only [maskedMatch_cons, maskedMatch_all, BitVec.and_zero, true_and]
  constructor
  · rintro ⟨⟨_, rfl, c, _, rfl, rfl⟩, hi⟩
    exact ⟨c.toNat, c.isLt, (Option.some.inj hi).symm, by simp⟩
  · rintro ⟨ch, hch, rfl, rfl⟩
    exact ⟨⟨_, rfl, _, _, rfl, rfl⟩, congrArg (some <| mk ·) (Nat.mod_eq_of_lt hch)⟩

/-- A row of the bulk writes of one word, of which the low byte is not matched. -/
theorem reads_word {mh ph : Byte} {mk : Half → Option Instr}
    (hp : row.pattern = (bulkWrite [ph, 0#8]).image)
    (hm : row.mask = List.replicate 8 255#8 ++ [mh, 0#8])
    (hbuild : ∀ bs, row.build sh bs = mk (be16At bs 8)) :
    row.Reads sh bs i ↔ ∃ w, hi8 w &&& mh = ph ∧ mk w = some i ∧ bs = (bulkWrite (be16 w)).image := by
  rw [Row.Reads, hits_bulkWrite hp hm, hbuild]
  simp only [maskedMatch_word, maskedMatch_nil, BitVec.and_zero, true_and]
  constructor
  · rintro ⟨⟨_, rfl, w, _, rfl, hhi, rfl⟩, hmk⟩
    exact ⟨w, hhi, by rw [← hmk]; exact congrArg mk (hi8_append_lo8 w).symm, rfl⟩
  · rintro ⟨w, hhi, hmk, rfl⟩
    exact ⟨⟨_, rfl, w, [], rfl, hhi, rfl⟩, by rw [← hmk]; exact congrArg mk (hi8_append_lo8 w)⟩

/-- The row of a phase register. -/
theorem reads_phase (reg : PhaseReg) {mk : Nat → Instr}
    (hp : row.pattern = (bulkWrite [reg.tag ++ 0#4, 0#8]).image)
    (hm : row.mask = List.replicate 8 255#8 ++ [0xF0#8, 0#8])
    (hbuild : ∀ bs, row.build sh bs = some (mk (phaseAt bs))) :
    row.Reads sh bs i ↔ ∃ v, v < 2 ^ 12 ∧ i = mk v ∧ bs = (ddsPhaseRequest reg v).image := by
  rw [reads_word (mk := fun w => some (mk (w.extractLsb' 0 12).toNat)) hp hm hbuild]
  simp only [hi8_tag4_iff]
  constructor
  · rintro ⟨w, htag, hi, rfl⟩
    have hw : w = phaseWord reg (w.extractLsb' 0 12) := eq_append_iff.2 ⟨htag, rfl⟩
    refine ⟨_, (w.extractLsb' 0 12).isLt, (Option.some.inj hi).symm, ?_⟩
    rw [ddsPhaseRequest, BitVec.ofNat_toNat, BitVec.setWidth_eq, ← hw]
  · rintro ⟨v, hv, rfl, rfl⟩
    obtain ⟨htag, hval⟩ := eq_append_iff.1 (rfl : phaseWord reg (BitVec.ofNat 12 v) = _)
    exact ⟨_, htag, by rw [hval, BitVec.toNat_ofNat, Nat.mod_eq_of_lt hv], rfl⟩

/-- The row of a frequency register. -/
theorem reads_freq (reg : FreqReg) {mk : Nat → Instr}
    (hp : row.pattern = (bulkWrite [reg.tag ++ 0#6, 0#8, reg.tag ++ 0#6, 0#8]).image)
    (hm : row.mask = List.replicate 8 255#8 ++ [0xC0#8, 0#8, 0xC0#8, 0#8])
    (hbuild : ∀ bs, row.build sh bs = some (mk (freqAt bs))) :
    row.Reads sh bs i ↔ ∃ v, v < 2 ^ 28 ∧ i = mk v ∧ bs = (ddsFreqRequest reg v).image := by
  have hfreq (w0 w1 : Half) : freqAt (bulkWrite (be16 w0 ++ be16 w1)).image =
      (w1.extractLsb' 0 14 ++ w0.extractLsb' 0 14).toNat := by
    have h0 : be16At (bulkWrite (be16 w0 ++ be16 w1)).image 8 = w0 := hi8_append_lo8 w0
    have h1 : be16At (bulkWrite (be16 w0 ++ be16 w1)).image 10 = w1 := hi8_append_lo8 w1
    rw [freqAt, h0, h1]
  rw [Row.Reads, hits_bulkWrite hp hm, hbuild]
  simp only [maskedMatch_word, maskedMatch_nil, BitVec.and_zero, true_and, hi8_tag2_iff]
  constructor
  · rintro ⟨⟨_, rfl, w0, _, rfl, htag0, w1, _, rfl, htag1, rfl⟩, hi⟩
    rw [List.append_nil, hfreq] at hi
    obtain ⟨h0, h1⟩ := freqWords_iff.1 ⟨htag0, htag1, rfl⟩
    refine ⟨_, BitVec.isLt _, (Option.some.inj hi).symm, ?_⟩
    rw [ddsFreqRequest, BitVec.ofNat_toNat, BitVec.setWidth_eq, ← h0, ← h1, List.append_nil]
  · rintro ⟨v, hv, rfl, rfl⟩
    obtain ⟨htag0, htag1, hval⟩ := (freqWords_iff (reg := reg) (v := BitVec.ofNat 28 v)).2 ⟨rfl, rfl⟩
    refine ⟨⟨_, rfl, _, _, rfl, htag0, _, [], rfl, htag1, rfl⟩, ?_⟩
    rw [ddsFreqRequest, hfreq, hval, BitVec.toNat_ofNat, Nat.mod_eq_of_lt hv]

/-- The row of a pin. -/
theorem reads_gpio (pin : Pin) {mk : Nat → Instr} {pattern mask : List Byte}
    (hp : pattern = (plainOut 0x21#8 ([0#8, 0#8] ++ (gpioMask pin).toList)).image)
    (hm : mask = List.replicate 8 255#8 ++
      [~~~(gpioMask pin).b0, ~~~(gpioMask pin).b1] ++ [255#8, 255#8]) :
    (gpioRow pin pattern mask mk).Reads sh bs i ↔ ∃ level, level < 2 ∧ i = mk level ∧
      bs = (gpioSetRequest pin level).image := by
  have hbit (d : Bytes2) : bitAt (plainOut 0x21#8 (d.toList ++ (gpioMask pin).toList)).image
      (8 + pin.byteIndex) pin.bitIndex = if pinLevel pin d then 1 else 0 := by
    cases pin <;> rfl
  rw [Row.Reads, hits_plainOut hp (by simpa [gpioRow] using hm)]
  simp only [List.cons_append, List.nil_append, Bytes2.toList, maskedMatch_cons, maskedMatch_nil, and_ff]
  constructor
  · rintro ⟨⟨_, rfl, d0, _, rfl, h0, d1, _, rfl, h1, _, _, rfl, rfl, _, _, rfl, rfl, rfl⟩, hi⟩
    obtain ⟨hlevel, hd⟩ := (gpioData_iff (d := ⟨d0, d1⟩)).1 ⟨h0, h1, rfl⟩
    refine ⟨_, hlevel, ?_, ?_⟩
    · exact (Option.some.inj hi).symm.trans (congrArg mk (hbit ⟨d0, d1⟩))
    · rw [gpioSetRequest, ← hd]; rfl
  · rintro ⟨level, hlevel, rfl, rfl⟩
    obtain ⟨h0, h1, hl⟩ := gpioData_iff.2 ⟨hlevel, rfl⟩
    refine ⟨⟨_, rfl, _, _, rfl, h0, _, _, rfl, h1, _, _, rfl, rfl, _, _, rfl, rfl, rfl⟩, ?_⟩
    exact congrArg (some <| mk ·) ((hbit _).trans hl)

/-- The row of SPI_MODE. -/
theorem reads_spiMode : rows[0].Reads sh bs i ↔ ∃ ch cpol cpha, (ch < 256 ∧ cpol < 2 ∧ cpha < 2) ∧
    i = .spiMode ch cpol cpha ∧ bs = (spiModeRequest ch cpol cpha).image := by
  rw [Row.Reads, hits_plainOut (b := 0x31#8) (ps := [0#8, 0x08#8]) (ms := [0#8, 0xCF#8]) rfl rfl]
  simp only [maskedMatch_cons, maskedMatch_nil, BitVec.and_zero, true_and]
  constructor
  · rintro ⟨⟨_, rfl, ch, _, rfl, w, _, rfl, hw, rfl⟩, hi⟩
    obtain ⟨hcpol, hcpha, hword⟩ := spiModeWord_iff.1 ⟨hw, rfl, rfl⟩
    refine ⟨_, _, _, ⟨ch.isLt, hcpol, hcpha⟩, (Option.some.inj hi).symm, ?_⟩
    rw [spiModeRequest, ← hword, BitVec.ofNat_toNat, BitVec.setWidth_eq]
  · rintro ⟨ch, cpol, cpha, ⟨hch, hcpol, hcpha⟩, rfl, rfl⟩
    obtain ⟨hw, hbit4, hbit5⟩ := spiModeWord_iff.2 ⟨hcpol, hcpha, rfl⟩
    refine ⟨⟨_, rfl, _, _, rfl, _, _, rfl, hw, rfl⟩, congrArg some ?_⟩
    exact congr (congr (congrArg Instr.spiMode (Nat.mod_eq_of_lt hch)) hbit4) hbit5

theorem reads_csSelect : rows[1].Reads sh bs i ↔ ∃ ch, ch < 256 ∧
    i = .csSelect ch ∧ bs = (csSelectRequest ch).image :=
  reads_channel rfl rfl fun _ => rfl

theorem reads_csDisable : rows[2].Reads sh bs i ↔ ∃ ch, ch < 256 ∧
    i = .csDisable ch ∧ bs = (csDisableRequest ch).image :=
  reads_channel rfl rfl fun _ => rfl

theorem reads_delayDisable : rows[3].Reads sh bs i ↔ ∃ ch, ch < 256 ∧
    i = .delayDisable ch ∧ bs = (delayDisableRequest ch).image :=
  reads_channel rfl rfl fun _ => rfl

theorem reads_gpioGet : rows[4].Reads sh bs i ↔ i = .gpioGet ∧ bs = gpioGetRequest.image :=
  reads_fixed rfl fun _ => rfl

theorem reads_gpioSetB0b0 : rows[5].Reads sh bs i ↔ ∃ level, level < 2 ∧
    i = .gpioSetB0b0 level ∧ bs = (gpioSetRequest .b0_0 level).image :=
  reads_gpio .b0_0 rfl rfl

theorem reads_gpioSetB0b2 : rows[6].Reads sh bs i ↔ ∃ level, level < 2 ∧
    i = .gpioSetB0b2 level ∧ bs = (gpioSetRequest .b0_2 level).image :=
  reads_gpio .b0_2 rfl rfl

theorem reads_gpioSetB1b5 : rows[7].Reads sh bs i ↔ ∃ level, level < 2 ∧
    i = .gpioSetB1b5 level ∧ bs = (gpioSetRequest .b1_5 level).image :=
  reads_gpio .b1_5 rfl rfl

theorem reads_gpioSetB1b6 : rows[8].Reads sh bs i ↔ ∃ level, level < 2 ∧
    i = .gpioSetB1b6 level ∧ bs = (gpioSetRequest .b1_6 level).image :=
  reads_gpio .b1_6 rfl rfl

theorem reads_gpioSetB1b7 : rows[9].Reads sh bs i ↔ ∃ level, level < 2 ∧
    i = .gpioSetB1b7 level ∧ bs = (gpioSetRequest .b1_7 level).image :=
  reads_gpio .b1_7 rfl rfl

theorem reads_otpQuery : rows[10].Reads sh bs i ↔ i = .otpQuery ∧ bs = otpQueryRequest.image :=
  reads_fixed rfl fun _ => rfl

/-- The row of OTP_LOCK, of which the wValue is not matched. -/
theorem reads_otpLock : rows[11].Reads sh bs i ↔ i = .otpLock ∧ ∃ v, bs = (otpLockRequest v).image := by
  have hhits : rows[11].hits bs = true ↔ ∃ hi lo,
      bs = [0x40#8, 0x6F#8] ++ lo :: hi :: [0#8, 0#8, 2#8, 0#8, 0#8, 0#8] := by
    have hrest {t : List Byte} := maskedMatch_all (bs := t) (ps := [0#8, 0#8, 2#8, 0#8, 0#8, 0#8])
    rw [Row.hits_iff, exists_comm]
    refine (maskedMatch_header (header := [0x40#8, 0x6F#8])).trans ⟨?_, ?_⟩
    · rintro ⟨_, rfl, ht⟩
      obtain ⟨lo, _, rfl, -, ht⟩ := maskedMatch_cons.1 ht
      obtain ⟨hi, _, rfl, -, ht⟩ := maskedMatch_cons.1 ht
      exact ⟨lo, hi, by rw [hrest.1 ht]⟩
    · rintro ⟨lo, hi, rfl⟩
      exact ⟨_, rfl, maskedMatch_cons.2 ⟨lo, _, rfl, BitVec.and_zero,
        maskedMatch_cons.2 ⟨hi, _, rfl, BitVec.and_zero, hrest.2 rfl⟩⟩⟩
  rw [Row.Reads, hhits, exists_half, and_comm]
  exact and_congr_left fun _ => ⟨fun hi => (Option.some.inj hi).symm, fun hi => congrArg some hi.symm⟩

theorem reads_reset : rows[12].Reads sh bs i ↔ i = .reset ∧ bs = resetRequest.image :=
  reads_fixed rfl fun _ => rfl

theorem reads_ddsFreq0 : rows[13].Reads sh bs i ↔ ∃ v, v < 2 ^ 28 ∧
    i = .ddsFreq0 v ∧ bs = (ddsFreqRequest .freq0 v).image :=
  reads_freq .freq0 rfl rfl fun _ => rfl

theorem reads_ddsFreq1 : rows[14].Reads sh bs i ↔ ∃ v, v < 2 ^ 28 ∧
    i = .ddsFreq1 v ∧ bs = (ddsFreqRequest .freq1 v).image :=
  reads_freq .freq1 rfl rfl fun _ => rfl

theorem reads_ddsPhase0 : rows[15].Reads sh bs i ↔ ∃ v, v < 2 ^ 12 ∧
    i = .ddsPhase0 v ∧ bs = (ddsPhaseRequest .phase0 v).image :=
  reads_phase .phase0 rfl rfl fun _ => rfl

theorem reads_ddsPhase1 : rows[16].Reads sh bs i ↔ ∃ v, v < 2 ^ 12 ∧
    i = .ddsPhase1 v ∧ bs = (ddsPhaseRequest .phase1 v).image :=
  reads_phase .phase1 rfl rfl fun _ => rfl

theorem reads_ddsAmp : rows[17].Reads sh bs i ↔ ∃ v, v < 2 ^ 10 ∧
    i = .ddsAmp v ∧ bs = (ddsAmpRequest sh v).image := by
  rw [reads_word (mh := 0xF0#8) (ph := 0#4 ++ 0#4) (mk := fun w => (ampValue? sh w).map .ddsAmp)
    rfl rfl fun _ => rfl]
  simp only [hi8_tag4_iff (t := 0#4), Option.map_eq_some_iff, ampValue_eq_some_iff]
  constructor
  · rintro ⟨_, -, ⟨v, ⟨hv, rfl⟩, rfl⟩, rfl⟩
    exact ⟨v, hv, rfl, rfl⟩
  · rintro ⟨v, hv, rfl, rfl⟩
    exact ⟨_, ampWord_top sh v hv, ⟨v, ⟨hv, rfl⟩, rfl⟩, rfl⟩

/-- The row of DDS_SHAPE: the shape is bit 1 of the low byte, the only free one. -/
theorem reads_ddsShape : rows[18].Reads sh bs i ↔ ∃ shape,
    i = .ddsShape shape ∧ bs = (ddsShapeRequest shape).image := by
  rw [Row.Reads, hits_bulkWrite (ps := [0x22#8, 0#8]) (ms := [255#8, 0xFD#8]) rfl rfl]
  simp only [maskedMatch_cons, maskedMatch_nil]
  constructor
  · rintro ⟨⟨_, rfl, hi, _, rfl, hhi, lo, _, rfl, hlo, rfl⟩, hbuild⟩
    obtain rfl : _ = 0x22#8 := (and_ff _).symm.trans hhi
    obtain ⟨level, hbit⟩ : ∃ level, (if lo.getLsbD 1 then 1 else 0) = level := ⟨_, rfl⟩
    obtain ⟨hlevel, rfl⟩ := (lane_iff (k := 1) (by decide)).1 ⟨hlo, hbit⟩
    interval_cases level <;> exact ⟨_, (Option.some.inj hbuild).symm, rfl⟩
  · rintro ⟨_ | _, rfl, rfl⟩ <;>
      exact ⟨⟨_, rfl, _, _, rfl, rfl, _, _, rfl, rfl, rfl⟩, rfl⟩

end

/-! ## Decoding is the inverse of encoding (30_encoding.md R93 to R96) -/

/-- The byte string is the image of the well-formed instruction, for some value of the OPEN parameters
other than AMP_SHIFT. -/
def IsImage (sh : AmpShift) (i : Instr) (bs : List Byte) : Prop :=
  i.wf = true ∧ ∃ p : Params, p.ampShift = sh ∧ encode p i = some bs

section
variable {sh : AmpShift} {bs : List Byte} {i : Instr}

theorem isImage_of_request {j : Instr} {r : Request} (hi : i = j) (hbs : bs = r.image) (hw : j.wf = true)
    (hr : j.request { (default : Params) with ampShift := sh } = some r) : IsImage sh i bs :=
  hi ▸ hbs ▸ ⟨hw, _, rfl, congrArg (Option.map _) hr⟩

/-- The image of an instruction of one operand that fits. -/
theorem isImage_of_operand {mk : Nat → Instr} {req : Nat → Request} {n : Nat}
    (h : ∃ v, v < n ∧ i = mk v ∧ bs = (req v).image) (hw : ∀ {v}, v < n → (mk v).wf = true)
    (hr : ∀ v, (mk v).request { (default : Params) with ampShift := sh } = some (req v)) :
    IsImage sh i bs :=
  let ⟨v, hv, hi, hbs⟩ := h
  isImage_of_request hi hbs (hw hv) (hr v)

/-- What a row reads is an image of the instruction it builds. -/
theorem isImage_of_reads {row : Row} (hmem : row ∈ rows) (h : row.Reads sh bs i) : IsImage sh i bs := by
  obtain ⟨k, hk, rfl⟩ := List.mem_iff_getElem.1 hmem
  match k, hk with
  | 0, _ =>
    obtain ⟨ch, cpol, cpha, ⟨hch, hcpol, hcpha⟩, hi, hbs⟩ := reads_spiMode.1 h
    exact isImage_of_request hi hbs (by simp [Instr.wf, hch, hcpol, hcpha]) rfl
  | 1, _ => exact isImage_of_operand (reads_csSelect.1 h) decide_eq_true fun _ => rfl
  | 2, _ => exact isImage_of_operand (reads_csDisable.1 h) decide_eq_true fun _ => rfl
  | 3, _ => exact isImage_of_operand (reads_delayDisable.1 h) decide_eq_true fun _ => rfl
  | 4, _ => exact isImage_of_request (reads_gpioGet.1 h).1 (reads_gpioGet.1 h).2 rfl rfl
  | 5, _ => exact isImage_of_operand (reads_gpioSetB0b0.1 h) decide_eq_true fun _ => rfl
  | 6, _ => exact isImage_of_operand (reads_gpioSetB0b2.1 h) decide_eq_true fun _ => rfl
  | 7, _ => exact isImage_of_operand (reads_gpioSetB1b5.1 h) decide_eq_true fun _ => rfl
  | 8, _ => exact isImage_of_operand (reads_gpioSetB1b6.1 h) decide_eq_true fun _ => rfl
  | 9, _ => exact isImage_of_operand (reads_gpioSetB1b7.1 h) decide_eq_true fun _ => rfl
  | 10, _ => exact isImage_of_request (reads_otpQuery.1 h).1 (reads_otpQuery.1 h).2 rfl rfl
  | 11, _ =>
    obtain ⟨rfl, v, rfl⟩ := reads_otpLock.1 h
    exact ⟨rfl, { (default : Params) with ampShift := sh, otpLockWValue := v }, rfl, rfl⟩
  | 12, _ => exact isImage_of_request (reads_reset.1 h).1 (reads_reset.1 h).2 rfl rfl
  | 13, _ => exact isImage_of_operand (reads_ddsFreq0.1 h) decide_eq_true fun _ => rfl
  | 14, _ => exact isImage_of_operand (reads_ddsFreq1.1 h) decide_eq_true fun _ => rfl
  | 15, _ => exact isImage_of_operand (reads_ddsPhase0.1 h) decide_eq_true fun _ => rfl
  | 16, _ => exact isImage_of_operand (reads_ddsPhase1.1 h) decide_eq_true fun _ => rfl
  | 17, _ => exact isImage_of_operand (reads_ddsAmp.1 h) decide_eq_true fun _ => rfl
  | 18, _ =>
    obtain ⟨_, hi, hbs⟩ := reads_ddsShape.1 h
    exact isImage_of_request hi hbs rfl rfl
  | k + 19, hk => exact absurd hk (Nat.not_lt.2 (Nat.le_add_left 19 k))

/-- An image is read by the row of its instruction. -/
theorem exists_reads_of_isImage (h : IsImage sh i bs) : ∃ row ∈ rows, row.Reads sh bs i := by
  obtain ⟨hw, p, rfl, henc⟩ := h
  have row {k : Nat} {hk : k < rows.length} (h : rows[k].Reads p.ampShift bs i) :
      ∃ row ∈ rows, row.Reads p.ampShift bs i := ⟨_, List.getElem_mem hk, h⟩
  cases i with
  | spiMode ch cpol cpha =>
    cases henc
    simp only [Instr.wf, Bool.and_eq_true, decide_eq_true_eq, and_assoc] at hw
    exact row (reads_spiMode.2 ⟨_, _, _, hw, rfl, rfl⟩)
  | csSelect => cases henc; exact row (reads_csSelect.2 ⟨_, of_decide_eq_true hw, rfl, rfl⟩)
  | csDisable => cases henc; exact row (reads_csDisable.2 ⟨_, of_decide_eq_true hw, rfl, rfl⟩)
  | delayDisable => cases henc; exact row (reads_delayDisable.2 ⟨_, of_decide_eq_true hw, rfl, rfl⟩)
  | gpioGet => cases henc; exact row (reads_gpioGet.2 ⟨rfl, rfl⟩)
  | gpioSetB0b0 => cases henc; exact row (reads_gpioSetB0b0.2 ⟨_, of_decide_eq_true hw, rfl, rfl⟩)
  | gpioSetB0b2 => cases henc; exact row (reads_gpioSetB0b2.2 ⟨_, of_decide_eq_true hw, rfl, rfl⟩)
  | gpioSetB1b5 => cases henc; exact row (reads_gpioSetB1b5.2 ⟨_, of_decide_eq_true hw, rfl, rfl⟩)
  | gpioSetB1b6 => cases henc; exact row (reads_gpioSetB1b6.2 ⟨_, of_decide_eq_true hw, rfl, rfl⟩)
  | gpioSetB1b7 => cases henc; exact row (reads_gpioSetB1b7.2 ⟨_, of_decide_eq_true hw, rfl, rfl⟩)
  | otpQuery => cases henc; exact row (reads_otpQuery.2 ⟨rfl, rfl⟩)
  | otpLock => cases henc; exact row (reads_otpLock.2 ⟨rfl, _, rfl⟩)
  | reset => cases henc; exact row (reads_reset.2 ⟨rfl, rfl⟩)
  | ddsFreq0 => cases henc; exact row (reads_ddsFreq0.2 ⟨_, of_decide_eq_true hw, rfl, rfl⟩)
  | ddsFreq1 => cases henc; exact row (reads_ddsFreq1.2 ⟨_, of_decide_eq_true hw, rfl, rfl⟩)
  | ddsPhase0 => cases henc; exact row (reads_ddsPhase0.2 ⟨_, of_decide_eq_true hw, rfl, rfl⟩)
  | ddsPhase1 => cases henc; exact row (reads_ddsPhase1.2 ⟨_, of_decide_eq_true hw, rfl, rfl⟩)
  | ddsAmp => cases henc; exact row (reads_ddsAmp.2 ⟨_, of_decide_eq_true hw, rfl, rfl⟩)
  | ddsShape => cases henc; exact row (reads_ddsShape.2 ⟨_, rfl, rfl⟩)
  | morse | seqPrecheck | seqEnd | seqSkipWs | seqSkipUnmapped | seqCharGap | seqWordGap
  | seqCharStart | seqDot | seqDash => cases henc

/-- The decoder reads an instruction from a byte string exactly when that is its image. -/
theorem decode_eq_ok_iff : decode sh bs = .ok i ↔ IsImage sh i bs := by
  rw [decode_eq_ok_iff_row]
  constructor
  · rintro ⟨-, row, hmem, hreads⟩
    exact isImage_of_reads hmem hreads
  · intro h
    refine ⟨?_, exists_reads_of_isImage h⟩
    obtain ⟨-, p, -, henc⟩ := h
    obtain ⟨r, hr, rfl⟩ := Option.map_eq_some_iff.1 henc
    exact (everyCommandMovesItsFixedLength p i r hr).1

end

/-- Settles O1: the image is one for the parameters it was made with. -/
theorem encodeThenDecodeGivesInstruction : Obligations.EncodeThenDecodeGivesInstruction :=
  fun p _ _ hw henc => decode_eq_ok_iff.2 ⟨hw, p, rfl, henc⟩

/-- Of the OPEN parameters an image depends on AMP_SHIFT alone, but for OTP_LOCK. -/
theorem encode_congr {p q : Params} {i : Instr} (hsh : p.ampShift = q.ampShift) (hi : i ≠ .otpLock) :
    encode p i = encode q i := by
  unfold encode
  cases i with
  | otpLock => exact absurd rfl hi
  | ddsAmp v => simp only [Instr.request, hsh]
  | _ => rfl

/-- Settles O2: what decodes is an image for some parameters, which only OTP_LOCK depends on. -/
theorem decodedImageIsTheInstructionsImage : Obligations.DecodedImageIsTheInstructionsImage := by
  intro p bs i h
  obtain ⟨hw, q, hsh, henc⟩ := decode_eq_ok_iff.1 h
  refine ⟨hw, fun hi => (encode_congr hsh.symm hi).trans henc, ?_⟩
  rintro rfl
  exact ⟨q.otpLockWValue, (Option.some.inj henc).symm⟩

/-- Settles O3: eleven fixed images, evaluated. -/
theorem vectorImagesDecode : Obligations.VectorImagesDecode :=
  ⟨rfl, rfl, rfl, rfl, rfl, rfl, rfl, rfl, rfl, rfl, rfl⟩

end Sys2Proof
end

section
/-! The command port and the requests that go out (30_encoding.md R84 to R88, R97): what a step does with
what is presented, what the port refuses, and that no step issues a never-issued encoding. -/

namespace Sys2Proof.Machine

/-! ## A presentation made now (30_encoding.md R84, R85, R96) -/

section
variable {s : State} {q : Presentation} {rest : List Presentation}

theorem presentedNow_iff : presentedNow s q = true ↔ s.phase = .idle ∨ q.waits = false := by
  simp [presentedNow]

/-- A presented item that names an instruction: the step runs it. -/
theorem step_of_portInstr_ok {i : Instr} (hport : s.port = q :: rest)
    (hnow : s.phase = .idle ∨ q.waits = false) (hi : portInstr s.params q.item = .ok i) :
    step s = exec i { s with port := rest } := by
  simp only [step, hport, presentedNow_iff.2 hnow, if_true, hi]

/-- A presented item that the port refuses: so does the step. -/
theorem step_of_portInstr_error {r : Refusal} (hport : s.port = q :: rest)
    (hnow : s.phase = .idle ∨ q.waits = false) (hr : portInstr s.params q.item = .error r) :
    step s = .refused r := by
  simp only [step, hport, presentedNow_iff.2 hnow, if_true, hr]

end

theorem portInstr_image {p : Params} {bs : List Byte} {i : Instr} (h : decode p.ampShift bs = .ok i) :
    portInstr p (.image bs) = .ok i := by
  simp only [portInstr, h]

theorem portInstr_line {p : Params} {text : List Byte} {c : Command} (h : parseLine text = some c) :
    portInstr p (.line text) = commandInstr p c := by
  simp only [portInstr, h]

/-- Settles O10: each of the three kinds of item names its instruction at the port. -/
theorem stepRunsThePresentedInstruction : Obligations.StepRunsThePresentedInstruction := by
  intro s q rest i hport hnow hitem
  refine step_of_portInstr_ok hport hnow ?_
  rcases hitem with ⟨bs, hq, hdec⟩ | ⟨c, hq, hc⟩ | ⟨text, c, hq, hparse, hc⟩ <;> rw [hq]
  · exact portInstr_image hdec
  · exact hc
  · exact (portInstr_line hparse).trans hc

/-! ## Pseudo-commands and assembler text (30_encoding.md R85, R86) -/

/-- The position of a pin names that pin (42_gpio.md R115). -/
theorem pinAt_self (pin : Pin) : pinAt pin.byteIndex pin.bitIndex = some pin := by
  cases pin <;> rfl

theorem pinAt_eq_none {byte bit : Nat} (h : ∀ pin : Pin, ¬(pin.byteIndex = byte ∧ pin.bitIndex = bit)) :
    pinAt byte bit = none := by
  simp [pinAt, h]

/-- GPIO_SET at the position of a pin is the instruction of that pin. -/
theorem commandInstr_gpioSet (p : Params) (pin : Pin) (level : Nat) :
    commandInstr p (.gpioSet pin.byteIndex pin.bitIndex level) = .ok (gpioSetInstr pin level) := by
  simp only [commandInstr, pinAt_self]

/-- Settles O12: DAC_ON and DAC_OFF by the position of DAC_EN_PIN; setFrequency by definition. -/
theorem pseudoCommandsExpand : Obligations.PseudoCommandsExpand :=
  fun p _ _ => ⟨(commandInstr_gpioSet p p.dacEnPin (dacOnLevel p)).symm,
    (commandInstr_gpioSet p p.dacEnPin (dacOffLevel p)).symm, rfl⟩

/-- Settles O13: six fixed lines, evaluated. -/
theorem assemblerExamplesParse : Obligations.AssemblerExamplesParse := ⟨rfl, rfl, rfl, rfl, rfl, rfl⟩

/-! ## What the port refuses (30_encoding.md R88) -/

/-- A command has a request, or is MORSE. -/
theorem request_of_instrOp {i : Instr} {op : Op} (h : instrOp i = some op) (p : Params) :
    (∃ r, i.request p = some r) ∨ ∃ text, i = .morse text := by
  cases i with
  | seqPrecheck | seqEnd | seqSkipWs | seqSkipUnmapped | seqCharGap | seqWordGap | seqCharStart
  | seqDot | seqDash => cases h
  | morse => exact .inr ⟨_, rfl⟩
  | _ => exact .inl ⟨_, rfl⟩

/-- Every command is accepted or refused at the port, by its own operand widths. -/
theorem exec_eq_portCommand {i : Instr} {op : Op} (h : instrOp i = some op) (s : State) :
    ∃ run, exec i s = portCommand i.wf s run := by
  rcases request_of_instrOp h s.params with ⟨r, hr⟩ | ⟨text, rfl⟩
  · obtain ⟨op, -, hexec⟩ := exec_of_request hr
    exact ⟨_, hexec⟩
  · exact ⟨fun s => s.acceptMorse text, rfl⟩

theorem portCommand_busy {fits : Bool} {s : State} {run : State → State} (hb : s.busy = true) :
    portCommand fits s run = .refused .busy := by
  simp [portCommand, hb]

theorem portCommand_tooWide {fits : Bool} {s : State} {run : State → State} (hb : s.busy = false)
    (hf : fits = false) : portCommand fits s run = .refused .operandTooWide := by
  simp [portCommand, hb, hf]

/-- Settles O11: acceptance at the port, the operand widths, and the three refusals of a record. -/
theorem portRefusesWhatDoesNotFit : Obligations.PortRefusesWhatDoesNotFit := by
  refine ⟨fun i s op hop => ?accept, fun ch cpol cpha level v => ?widths,
    fun s rest w v byte bit level hnow => ⟨?freqTag, ?phaseTag, fun hpin hport => ?pin⟩⟩
  case accept =>
    obtain ⟨run, hexec⟩ := exec_eq_portCommand hop s
    rw [hexec]
    exact ⟨portCommand_busy, portCommand_tooWide, fun hb hf => ⟨_, portCommand_ready hb hf⟩⟩
  case widths =>
    refine ⟨?_, decide_eq_true_iff, decide_eq_true_iff, decide_eq_true_iff, fun _ => gpioSetInstr_wf,
      decide_eq_true_iff, decide_eq_true_iff, decide_eq_true_iff, decide_eq_true_iff, decide_eq_true_iff⟩
    simp [Instr.wf, and_assoc]
  case freqTag => rintro _ (rfl | rfl) hport <;> exact step_of_portInstr_error hport hnow rfl
  case phaseTag => rintro _ (rfl | rfl) hport <;> exact step_of_portInstr_error hport hnow rfl
  case pin =>
    refine step_of_portInstr_error hport hnow ?_
    simp only [portInstr, commandInstr, pinAt_eq_none hpin]

/-! ## The requests of the commands (30_encoding.md R97) -/

theorem issuable_gpioSet (pin : Pin) {level : Nat} (h : level < 2) :
    Issuable (gpioSetRequest pin level) := by
  obtain ⟨h0, h1, -⟩ := (gpioData_iff (pin := pin)).2 ⟨h, rfl⟩
  have hk : pin.bitIndex < 8 := by cases pin <;> decide
  refine .inr (.inl ⟨rfl, _, _, _, _, rfl, ?_, h0, h1⟩)
  by_cases hb : pin.byteIndex = 0
  · exact .inr ⟨by simp [gpioMask, Pin.place, hb], _, hk, by simp [gpioMask, Pin.place, hb]⟩
  · exact .inl ⟨by simp [gpioMask, Pin.place, hb], _, hk, by simp [gpioMask, Pin.place, hb]⟩

theorem issuable_spiMode (ch : Nat) {cpol cpha : Nat} (hcpol : cpol < 2) (hcpha : cpha < 2) :
    Issuable (spiModeRequest ch cpol cpha) := by
  obtain ⟨hfixed, -⟩ := spiModeWord_iff.2 ⟨hcpol, hcpha, rfl⟩
  exact .inr (.inr (.inr (.inl ⟨rfl, _, _, rfl, hfixed⟩)))

theorem issuable_csFlag (ch flag : Byte) (h : flag = 0x02#8 ∨ flag = 0x00#8) :
    Issuable (plainOut 0x25#8 [ch, flag]) :=
  .inr (.inr (.inl ⟨rfl, _, _, rfl, h⟩))

theorem issuable_bulkWrite {payload : List Byte} (h : ddsPayload payload) :
    Issuable (bulkWrite payload) :=
  ⟨rfl, _, rfl, h⟩

theorem issuable_ddsFreq (reg : FreqReg) (v : Nat) : Issuable (ddsFreqRequest reg v) := by
  obtain ⟨htag0, htag1, -⟩ := (freqWords_iff (reg := reg) (v := BitVec.ofNat 28 v)).2 ⟨rfl, rfl⟩
  refine issuable_bulkWrite (.inl ⟨_, _, rfl, ?_, htag1.trans htag0.symm⟩)
  cases reg with
  | freq0 => exact .inl htag0
  | freq1 => exact .inr htag0

theorem issuable_ddsPhase (reg : PhaseReg) (v : Nat) : Issuable (ddsPhaseRequest reg v) := by
  have htag : (phaseWord reg (BitVec.ofNat 12 v)).extractLsb' 12 4 = reg.tag := extract_append_high _ _
  refine issuable_bulkWrite (.inr ⟨_, rfl, ?_⟩)
  cases reg with
  | phase0 => exact .inl htag
  | phase1 => exact .inr (.inl htag)

theorem issuable_ddsAmp (sh : AmpShift) {v : Nat} (h : v < 2 ^ 10) : Issuable (ddsAmpRequest sh v) :=
  issuable_bulkWrite (.inr ⟨_, rfl, .inr (.inr (.inr (.inr (ampWord_top sh v h))))⟩)

theorem issuable_ddsShape (shape : Shape) : Issuable (ddsShapeRequest shape) :=
  issuable_bulkWrite (.inr ⟨_, rfl, by cases shape <;> decide⟩)

/-- The request of a well-formed command is none of the never-issued encodings. -/
theorem issuable_of_request {i : Instr} {p : Params} {r : Request} (hw : i.wf = true)
    (hr : i.request p = some r) : Issuable r := by
  cases i with
  | spiMode ch cpol cpha =>
    cases hr
    simp only [Instr.wf, Bool.and_eq_true, decide_eq_true_eq] at hw
    obtain ⟨⟨-, hcpol⟩, hcpha⟩ := hw
    exact issuable_spiMode ch hcpol hcpha
  | csSelect => cases hr; exact issuable_csFlag _ _ (.inl rfl)
  | csDisable => cases hr; exact issuable_csFlag _ _ (.inr rfl)
  | delayDisable => cases hr; exact .inr (.inr (.inr (.inr (.inl ⟨rfl, _, rfl⟩))))
  | gpioGet => cases hr; exact ⟨.inl rfl, rfl⟩
  | otpQuery => cases hr; exact ⟨.inr rfl, rfl⟩
  | gpioSetB0b0 | gpioSetB0b2 | gpioSetB1b5 | gpioSetB1b6 | gpioSetB1b7 =>
    cases hr; exact issuable_gpioSet _ (of_decide_eq_true hw)
  | otpLock => cases hr; exact .inr (.inr (.inr (.inr (.inr ⟨rfl, rfl⟩))))
  | reset => cases hr; exact .inl ⟨rfl, rfl⟩
  | ddsFreq0 | ddsFreq1 => cases hr; exact issuable_ddsFreq _ _
  | ddsPhase0 | ddsPhase1 => cases hr; exact issuable_ddsPhase _ _
  | ddsAmp => cases hr; exact issuable_ddsAmp _ (of_decide_eq_true hw)
  | ddsShape => cases hr; exact issuable_ddsShape _
  | morse | seqPrecheck | seqEnd | seqSkipWs | seqSkipUnmapped | seqCharGap | seqWordGap
  | seqCharStart | seqDot | seqDash => cases hr

theorem issuable_dacOn (p : Params) : Issuable (dacOnRequest p) :=
  issuable_gpioSet _ (by unfold dacOnLevel levelOf; split <;> decide)

theorem issuable_dacOff (p : Params) : Issuable (dacOffRequest p) :=
  issuable_gpioSet _ (Nat.lt_of_le_of_lt (Nat.sub_le 1 _) (by decide))

/-! ## What every step keeps, and what it can issue (30_encoding.md R97; logs 1 and 5) -/

/-- The parameters and the handle stay, and the trace grows by events whose requests the block can
issue. -/
structure StepFrame (s t : State) : Prop where
  params : t.params = s.params
  handle : t.handle = s.handle
  issued : ∃ es, t.trace = s.trace ++ es ∧ ∀ r ∈ requestsOf es, Issuable r

/-- Events without a request. -/
theorem StepFrame.of_events {s t : State} (es : List Event) (hes : requestsOf es = [])
    (hparams : t.params = s.params) (hhandle : t.handle = s.handle) (htrace : t.trace = s.trace ++ es) :
    StepFrame s t :=
  ⟨hparams, hhandle, es, htrace, by simp [hes]⟩

/-- No event. -/
theorem StepFrame.of_silent {s t : State} (hparams : t.params = s.params) (hhandle : t.handle = s.handle)
    (htrace : t.trace = s.trace) : StepFrame s t :=
  .of_events [] rfl hparams hhandle (by simp [htrace])

/-- One call. -/
theorem StepFrame.of_call {s t : State} {r : Request} (hr : Issuable r) (hparams : t.params = s.params)
    (hhandle : t.handle = s.handle) (htrace : t.trace = s.trace ++ [.xfer r (s.reply r)]) :
    StepFrame s t :=
  ⟨hparams, hhandle, _, htrace, by simpa [requestsOf] using hr⟩

/-- The precheck is one GPIO read, however it ends. -/
theorem StepFrame.runPrecheck (s : State) : StepFrame s s.runPrecheck := by
  have hget : Issuable gpioGetRequest := ⟨.inl rfl, rfl⟩
  rcases s.runPrecheck_cases with ⟨-, he⟩ | ⟨-, -, he⟩ | ⟨-, -, -, he⟩ | ⟨-, -, -, he⟩ <;> rw [he] <;>
    exact .of_call hget (by simp) (by simp) (by simp)

/-- A DAC-enable write is one call, however it ends. -/
theorem StepFrame.dacWrite (s : State) {r : Request} (hr : Issuable r) (next : Phase) :
    StepFrame s (s.dacWrite r next) := by
  rcases s.dacWrite_cases r next with ⟨-, he⟩ | ⟨-, he⟩ <;> rw [he] <;>
    exact .of_call hr (by simp) (by simp) (by simp)

theorem StepFrame.runSymGap (s : State) : StepFrame s s.runSymGap := by
  rcases s.runSymGap_cases with ⟨-, he⟩ | ⟨-, he⟩ <;> rw [he] <;>
    exact .of_events [.delay intraGapUnits] rfl rfl rfl rfl

/-- The sequencer's calls are the precheck's read and the DAC-enable writes. -/
theorem StepFrame.of_sequencerStep {s t : State} (h : sequencerStep s = .next t) : StepFrame s t := by
  rcases sequencerStep_next_cases h with ⟨-, rfl⟩ | ⟨-, rfl⟩ | ⟨-, -, -, -, rfl⟩ | ⟨-, -, -, -, rfl⟩ |
    ⟨-, -, -, rfl⟩ | ⟨-, -, -, rfl⟩ | ⟨-, -, -, rfl⟩ | ⟨-, -, -, rfl⟩ | ⟨-, -, rfl⟩ | ⟨-, rfl⟩ |
    ⟨-, rfl⟩ | ⟨-, c, code, -, -, rfl⟩ | ⟨-, rfl⟩ | ⟨-, x, -, rfl⟩ | ⟨-, rfl⟩ | ⟨-, rfl⟩
  · exact .of_silent rfl rfl rfl
  · exact .runPrecheck s
  · exact .of_silent rfl rfl rfl
  · exact .of_silent rfl rfl rfl
  · exact .of_silent rfl rfl rfl
  · exact .of_silent rfl rfl rfl
  · exact .of_silent rfl rfl rfl
  · exact .of_silent rfl rfl rfl
  · exact .of_silent rfl rfl rfl
  · exact .of_events [.delay charGapUnits] rfl rfl rfl rfl
  · exact .of_events [.echo 0x20#8, .delay wordGapUnits] rfl rfl rfl (by simp)
  · exact .of_events [.echo c] rfl rfl rfl rfl
  · exact .dacWrite s (issuable_dacOn _) _
  · exact .of_events [.delay (holdUnits x)] rfl rfl rfl rfl
  · exact .dacWrite s (issuable_dacOff _) _
  · exact .runSymGap s

/-- A step is a command of one transfer, a MORSE command accepted, or the sequencer's. -/
theorem StepFrame.of_step {s t : State} (h : step s = .next t) : StepFrame s t := by
  rcases step_cases h with ⟨rest, op, r, i, -, hw, -, hr, rfl⟩ | ⟨rest, text, -, rfl⟩ | hs
  · obtain ⟨ht, -⟩ := State.exec1_ran { s with port := rest } op r
    rw [ht]
    exact .of_call (issuable_of_request hw hr) rfl rfl rfl
  · exact .of_silent rfl rfl rfl
  · exact .of_sequencerStep hs

/-- Settles O7: one part of what `StepFrame` says of every step. -/
theorem neverIssuedEncodingsAreNeverIssued : Obligations.NeverIssuedEncodingsAreNeverIssued :=
  fun _ _ h => (StepFrame.of_step h).issued

/-- Settles O60: the other part. -/
theorem parametersAreFixed : Obligations.ParametersAreFixed :=
  fun _ _ h => ⟨(StepFrame.of_step h).params, (StepFrame.of_step h).handle⟩

end Sys2Proof.Machine
end

section
/-! SPI channel configuration (41_spi_config.md): a well-formed command on a free port is one `Exec1`, and
what each of the four channel writes does at the device. -/

namespace Sys2Proof.Machine

/-! ## A command of one transfer (41_spi_config.md R100) -/

section
variable {i : Instr} {s : State} {op : Op}

/-- A well-formed command with a request, on a free port, is `Exec1` of its mnemonic and request. -/
theorem exec_eq_exec1 {r : Request} (hr : i.request s.params = some r) (hop : instrOp i = some op)
    (hw : i.wf = true) (hb : s.busy = false) : exec i s = .next (s.exec1 op r) := by
  obtain ⟨op', hop', hexec⟩ := exec_of_request hr
  cases hop.symm.trans hop'
  exact hexec.trans (portExec1_ready hb hw)

/-- A well-formed command that is a control write: one transfer, no read data, and the device as the
request leaves it. -/
theorem exec_controlWrite {b : Byte} {v x : Half} {payload : List Byte}
    (hr : i.request s.params = some (.ctrlOut b v x payload)) (hop : instrOp i = some op)
    (hw : i.wf = true) (hb : s.busy = false) :
    ∃ t, exec i s = .next t ∧ ranOneTransfer s t op (.ctrlOut b v x payload) s.rdata ∧
      t.dev = deviceAfter s.params s.calls (.ctrlOut b v x payload)
        (s.good (.ctrlOut b v x payload)) s.dev :=
  ⟨_, exec_eq_exec1 hr hop hw hb, s.exec1_ran op _, s.exec1_dev op _⟩

end

/-- Settles O15: the command is `Exec1`, which is one transfer. -/
theorem encoderCommandsRunOneTransfer : Obligations.EncoderCommandsRunOneTransfer :=
  fun _ s r op hr hop hw hb => ⟨_, exec_eq_exec1 hr hop hw hb, s.exec1_ran op r⟩

/-! ## The image of a control write (30_encoding.md R75, R76) -/

/-- A plain control write with a payload of less than 256 bytes: the setup with the length in its low
byte, then the payload. -/
theorem image_plainOut (b : Byte) {payload : List Byte} (h : payload.length < 256) :
    (plainOut b payload).image =
      [0x40#8, b, 0#8, 0#8, 0#8, 0#8, BitVec.ofNat 8 payload.length, 0#8] ++ payload := by
  have hlow : lo8 (BitVec.ofNat 16 payload.length) = BitVec.ofNat 8 payload.length := by
    apply BitVec.eq_of_toNat_eq
    simp only [lo8, BitVec.extractLsb'_toNat, BitVec.toNat_ofNat, Nat.shiftRight_zero]
    omega
  have hhigh : hi8 (BitVec.ofNat 16 payload.length) = 0#8 := by
    apply BitVec.eq_of_toNat_eq
    simp only [hi8, BitVec.extractLsb'_toNat, BitVec.toNat_ofNat, Nat.shiftRight_eq_div_pow]
    omega
  simp only [plainOut, Request.image, le16, hlow, hhigh]
  rfl

/-! ## The channel writes (20_memory.md R64, R65) -/

/-- A chip-select that succeeds on a channel of CHANNEL_DOMAIN leaves that channel alone selected. -/
theorem csSelectWrite_of_good {good : Bool} {f d : Device} {ch : Byte} {c : Channel}
    (hg : good = true) (h : channelOf ch = some c) :
    csSelectWrite good f d ch = { d with cs := onlyChannel c } := by
  simp [csSelectWrite, hg, h]

/-- Settles O17: on channel 0 and 1 the device effect is `spiModeWrite`'s; R35 holds of any transfer. -/
theorem spiModeWritesItsControlWord : Obligations.SpiModeWritesItsControlWord := by
  intro s ch cpol cpha hb hch hcpol hcpha w r
  have hw : (Instr.spiMode ch cpol cpha).wf = true := by simp [Instr.wf, hch, hcpol, hcpha]
  obtain ⟨t, hexec, hran, hdev⟩ := exec_controlWrite (i := .spiMode ch cpol cpha) rfl rfl hw hb
  have hwrite := hdev.trans (deviceAfter_spiMode ch hcpol hcpha)
  refine ⟨t, hexec, hran, image_plainOut _ (by simp), ?ch0, ?ch1, fun hotp => hdev ▸ deviceAfter_otp_locked hotp⟩
  case ch0 | ch1 =>
    rintro rfl
    rw [hwrite, spiModeWrite_of_channel rfl]
    exact ⟨rfl, fun hg => if_pos hg⟩

/-- Settles O18: the frame of `csSelectWrite`, and on success its one member. -/
theorem csSelectSelectsExactlyOneChannel : Obligations.CsSelectSelectsExactlyOneChannel := by
  intro s ch hb hch r
  obtain ⟨t, hexec, hran, hdev⟩ :=
    exec_controlWrite (i := .csSelect ch) rfl rfl (decide_eq_true hch) hb
  have hwrite := hdev.trans (deviceAfter_csSelect ch)
  refine ⟨t, hexec, hran, image_plainOut _ (by simp), ?frame, ?ch0, ?ch1⟩
  case frame =>
    rw [hwrite]
    exact csSelectWrite_frame
  case ch0 | ch1 =>
    rintro hg rfl
    rw [hwrite, csSelectWrite_of_good hg rfl]
    rfl

/-- Settles O19: the frame of `csDisableWrite`, and the membership it writes on channel 0 and 1. -/
theorem csDisableDeselectsOneChannel : Obligations.CsDisableDeselectsOneChannel := by
  intro s ch hb hch r
  obtain ⟨t, hexec, hran, hdev⟩ :=
    exec_controlWrite (i := .csDisable ch) rfl rfl (decide_eq_true hch) hb
  have hwrite := hdev.trans (deviceAfter_csDisable ch)
  refine ⟨t, hexec, hran, image_plainOut _ (by simp), ?frame, ?ch0, ?ch1⟩
  case frame =>
    rw [hwrite]
    exact csDisableWrite_frame
  case ch0 | ch1 =>
    rintro rfl
    rw [hwrite, csDisableWrite_of_channel rfl]
    exact ⟨rfl, fun hg => if_pos hg⟩

/-- Settles O20: on channel 0 and 1 the device effect is `delayDisableWrite`'s; R35 holds of any
transfer. -/
theorem delayDisableZeroesOneChannel : Obligations.DelayDisableZeroesOneChannel := by
  intro s ch hb hch r
  obtain ⟨t, hexec, hran, hdev⟩ :=
    exec_controlWrite (i := .delayDisable ch) rfl rfl (decide_eq_true hch) hb
  have hwrite := hdev.trans (deviceAfter_delayDisable ch)
  refine ⟨t, hexec, hran, image_plainOut _ (by simp), ?ch0, ?ch1, fun hotp => hdev ▸ deviceAfter_otp_locked hotp⟩
  case ch0 | ch1 =>
    rintro rfl
    rw [hwrite, delayDisableWrite_of_channel rfl]
    exact ⟨rfl, fun hg => if_pos hg⟩

end Sys2Proof.Machine
end

section
/-! The GPIO commands (42_gpio.md): the level of a pin is one bit of a two-byte word, a masked write gives
that one lane the level written, and GPIO_GET and GPIO_SET are one transfer each. -/

namespace Sys2Proof.Machine

/-! ## The level of one pin (42_gpio.md R115, R118, R120) -/

theorem genStatusPin_mem (p : Params) : genStatusPin p ∈ otherPins p.dacEnPin := by
  have hlen : (otherPins p.dacEnPin).length = 4 := by cases p.dacEnPin <;> rfl
  have hslot : p.genStatusSlot.val < (otherPins p.dacEnPin).length := p.genStatusSlot.isLt.trans_eq hlen.symm
  rw [genStatusPin, List.getD_eq_getElem _ _ hslot]
  exact List.getElem_mem hslot

/-- The two pins are distinct (00_scope.md R6). -/
theorem genStatusPin_ne_dacEnPin (p : Params) : genStatusPin p ≠ p.dacEnPin :=
  of_decide_eq_true (List.mem_filter.1 (genStatusPin_mem p)).2

/-- Settles O23: the positions by definition, the predicates as comparisons of two bits, and
GEN_STATUS_PIN among the other pins. -/
theorem pinDecodeReadsOneBit : Obligations.PinDecodeReadsOneBit :=
  fun p _ => ⟨rfl, rfl, rfl, rfl, rfl, beq_iff_eq, beq_iff_eq, genStatusPin_ne_dacEnPin p⟩

/-! ## Masked writes (20_memory.md R63) -/

/-- A masked write gives every bit of the mask its new value. -/
theorem masked_getLsbD_of_masked (old new : Byte) {m : Byte} {k : Nat} (h : m.getLsbD k = true) :
    ((old &&& ~~~m) ||| (new &&& m)).getLsbD k = new.getLsbD k := by
  simp [h]

theorem pinLevel_maskedBytes {pin : Pin} {m : Bytes2} (h : pinLevel pin m = true) (old new : Bytes2) :
    pinLevel pin (maskedBytes old new m) = pinLevel pin new := by
  by_cases hbyte : pin.byteIndex = 0 <;> simp only [pinLevel, hbyte, if_true, if_false] at h ⊢ <;>
    exact masked_getLsbD_of_masked _ _ h

theorem pinLevel_gpioMask (pin : Pin) : pinLevel pin (gpioMask pin) = true := by
  cases pin <;> rfl

/-- The data pair of GPIO_SET holds its level in the pin's lane (30_encoding.md R81). -/
theorem pinLevel_gpioData (pin : Pin) {level : Nat} (h : level < 2) :
    pinLevel pin (gpioData pin level) = decide (level = 1) := by
  obtain ⟨-, -, hlevel⟩ := gpioData_iff.2 ⟨h, rfl⟩
  conv_rhs => rw [← hlevel]
  cases pinLevel pin (gpioData pin level) <;> rfl

/-- A GPIO_SET that succeeds drives its pin to the level (42_gpio.md R117). -/
theorem pinLevel_gpioWrite (f d : Device) (pin : Pin) {level : Nat} (h : level < 2) :
    pinLevel pin (gpioWrite true f d (gpioData pin level) (gpioMask pin)).gpio = decide (level = 1) :=
  (pinLevel_maskedBytes (pinLevel_gpioMask pin) _ _).trans (pinLevel_gpioData pin h)

/-! ## GPIO_SET (42_gpio.md R117, R119) -/

/-- GPIO_SET's request with its payload at the pin's byte. -/
theorem gpioSetRequest_eq (pin : Pin) (level : Nat) :
    gpioSetRequest pin level =
      plainOut 0x21#8
        (if pin.byteIndex = 0 then [BitVec.ofNat 8 level <<< pin.bitIndex, 0#8, 1#8 <<< pin.bitIndex, 0#8]
        else [0#8, BitVec.ofNat 8 level <<< pin.bitIndex, 0#8, 1#8 <<< pin.bitIndex]) := by
  simp only [gpioSetRequest, gpioData, gpioMask, Pin.place]
  split <;> rfl

/-- Settles O22: the device effect is `gpioWrite`'s, which drives the pin's lane and keeps the others. -/
theorem gpioSetDrivesOneLane : Obligations.GpioSetDrivesOneLane := by
  intro s pin level hb hlevel m d payload r
  have hr : gpioSetRequest pin level = r := gpioSetRequest_eq pin level
  obtain ⟨t, hexec, hran, hdev⟩ :=
    exec_controlWrite (i := gpioSetInstr pin level)
      ((gpioSetInstr_request _ pin level).trans (congrArg some hr))
      (gpioSetInstr_instrOp pin level) (gpioSetInstr_wf.2 hlevel) hb
  have hwrite : t.dev = gpioWrite (s.good r) (Config.freeDevice s.calls 0) s.dev
      (gpioData pin level) (gpioMask pin) := by
    rw [← deviceAfter_gpioSet (p := s.params) pin hlevel, hr]
    exact hdev
  have hlen : payload.length = 4 := by simp only [payload]; split <;> rfl
  refine ⟨t, hexec, hran, ?image, ?frame, ?driven, ?others⟩
  case image => exact (image_plainOut 0x21#8 (by omega)).trans (by rw [hlen])
  case frame => rw [hwrite]; rfl
  case driven =>
    intro hg
    rw [hwrite, hg]
    exact pinLevel_gpioWrite _ _ pin hlevel
  case others => rw [hwrite]; exact maskedBytes_onlyLane pin _ _

/-! ## Reads (41_spi_config.md R100, 20_memory.md R50, R54, R68, R69) -/

/-- What a read that succeeds brings is the device's data for its request. -/
theorem State.readBack_of_good {s : State} {r : Request} (h : s.good r = true) (b : Byte) :
    ∃ draw, s.readBack b = readData s.params b s.dev draw := by
  obtain ⟨_, _, draw, ha, _⟩ := (s.good_iff r).1 h
  exact ⟨draw, by simp only [State.readBack, ha]⟩

section
variable {s : State} {b : Byte} {v x : Half} {n : Nat}

theorem State.rdataAfter_read (h : s.good (.ctrlIn b v x n) = true) :
    s.rdataAfter (.ctrlIn b v x n) = s.readBack b := by
  simp only [State.rdataAfter, h]

theorem State.rdataAfter_failed {r : Request} (h : s.good r = false) : s.rdataAfter r = s.rdata := by
  cases r <;> simp only [State.rdataAfter, h]

/-- A well-formed command that is a control read: one transfer, the device as the request leaves it, and
the data of the response in `S.rdata` if the read succeeded. -/
theorem exec_controlRead {i : Instr} {op : Op} (hr : i.request s.params = some (.ctrlIn b v x n))
    (hop : instrOp i = some op) (hw : i.wf = true) (hb : s.busy = false) :
    ∃ t, exec i s = .next t ∧ ranOneTransfer s t op (.ctrlIn b v x n) t.rdata ∧
      t.dev = deviceAfter s.params s.calls (.ctrlIn b v x n) (s.good (.ctrlIn b v x n)) s.dev ∧
      (s.good (.ctrlIn b v x n) = true → s.reply (.ctrlIn b v x n) = .ok n t.rdata.toList ∧
        ∃ draw, t.rdata = readData s.params b s.dev draw) ∧
      (s.good (.ctrlIn b v x n) = false → t.rdata = s.rdata) := by
  refine ⟨_, exec_eq_exec1 hr hop hw hb, s.exec1_ran op _, s.exec1_dev op _, fun hg => ?_,
    State.rdataAfter_failed⟩
  rw [State.exec1_rdata, State.rdataAfter_read hg]
  exact ⟨State.reply_ctrlIn hg, State.readBack_of_good hg b⟩

end

/-! ## GPIO_GET (42_gpio.md R116) -/

/-- A GPIO read brings the DAC_EN_PIN level of the latch, whatever the other bits are (20_memory.md R69). -/
theorem pinLevel_readData_gpio (p : Params) (d : Device) (draw : Bytes2) :
    pinLevel p.dacEnPin (readData p 0x20#8 d draw) = pinLevel p.dacEnPin d.gpio :=
  pinLevel_maskedBytes (pinLevel_gpioMask p.dacEnPin) draw d.gpio

/-- Settles O21: the read has no device effect, and its data have the latch's level at DAC_EN_PIN. -/
theorem gpioGetReadsTheStatusWord : Obligations.GpioGetReadsTheStatusWord := by
  intro s hb r
  obtain ⟨t, hexec, hran, hdev, hread, hfailed⟩ := exec_controlRead (i := .gpioGet) rfl rfl rfl hb
  refine ⟨t, hexec, hran, rfl, hdev.trans deviceAfter_gpioGet, fun hg => ?_, hfailed⟩
  obtain ⟨hreply, draw, hdata⟩ := hread hg
  exact ⟨hreply, by rw [hdata, pinLevel_readData_gpio]⟩

end Sys2Proof.Machine
end

section
/-! The device control commands (43_device_control.md): OTP_QUERY's verdict is that of its one transfer,
OTP_LOCK writes the OTP bytes alone, and RESET writes every device field but these. -/

namespace Sys2Proof.Machine

/-! ## The result of a transfer and the OTP verdict (41_spi_config.md R100, 43_device_control.md R130) -/

section
variable {s t : State} {op : Op} {r : Request} {rdata : Bytes2}

theorem ranOneTransfer.result_eq (h : ranOneTransfer s t op r rdata) :
    t.result = if s.good r then .ok else .fail := by
  obtain ⟨ht, -, -⟩ := h
  exact congrArg State.result ht

theorem otpLocked_iff : otpLocked rdata = true ↔ rdata.b0 = 0#8 ∧ rdata.b1 = 0#8 := by
  simp [otpLocked]

/-- A transfer that succeeded has the verdict of its data. -/
theorem otpVerdict_of_good (h : ranOneTransfer s t op r rdata) (hg : s.good r = true) :
    otpVerdict t = some (otpLocked t.rdata) :=
  if_pos (by rw [h.result_eq, hg]; rfl)

/-- After a transport error there is no verdict (92_eei_decisions.md D37). -/
theorem otpVerdict_of_failed (h : ranOneTransfer s t op r rdata) (hg : s.good r = false) :
    otpVerdict t = none :=
  if_neg (by rw [h.result_eq, hg]; decide)

end

/-! ## The OTP bytes at the device (20_memory.md R68) -/

/-- An OTP query brings the OTP bytes, whatever is drawn for the answer. -/
theorem readData_otpQuery (p : Params) (d : Device) (draw : Bytes2) : readData p 0x6E#8 d draw = d.otp := rfl

theorem otpLockWrite_of_good {good : Bool} {f d : Device} (h : good = true) :
    otpLockWrite good f d = { d with otp := ⟨0#8, 0#8⟩ } :=
  if_pos h

/-! ## The three commands (43_device_control.md R130 to R132) -/

/-- Settles O24: the read has no device effect, its data are the OTP bytes, and the verdict follows the
result. -/
theorem otpQueryReportsTheLock : Obligations.OtpQueryReportsTheLock := by
  intro s hb r
  obtain ⟨t, hexec, hran, hdev, hread, hfailed⟩ := exec_controlRead (i := .otpQuery) rfl rfl rfl hb
  refine ⟨t, hexec, hran, rfl, hdev.trans deviceAfter_otpQuery, fun hg => ?good,
    fun hg => ⟨hfailed hg, otpVerdict_of_failed hran hg⟩⟩
  case good =>
    obtain ⟨-, draw, hdata⟩ := hread hg
    have hotp : t.rdata = s.dev.otp := hdata.trans (readData_otpQuery _ _ _)
    refine ⟨hotp, otpLocked t.rdata, otpVerdict_of_good hran hg, ?_⟩
    rw [hotp]
    exact otpLocked_iff

/-- Settles O25: the device effect is `otpLockWrite`'s; R35 holds of any transfer. -/
theorem otpLockLocks : Obligations.OtpLockLocks := by
  intro s hb v r
  obtain ⟨t, hexec, hran, hdev⟩ := exec_controlWrite (i := .otpLock) rfl rfl rfl hb
  have hwrite : t.dev = otpLockWrite (s.good r) (Config.freeDevice s.calls 0) s.dev :=
    hdev.trans deviceAfter_otpLock
  refine ⟨t, hexec, hran, rfl, ?frame, ?locks, fun hotp => hdev ▸ deviceAfter_otp_locked hotp⟩
  case frame =>
    rw [hwrite]
    exact otpLockWrite_frame
  case locks =>
    intro hg
    rw [hwrite, otpLockWrite_of_good hg]

/-- Settles O26: the device effect is `allButOtp`'s; the block's state is that of any transfer. -/
theorem resetCommandKeepsBlockStateAndOtp : Obligations.ResetCommandKeepsBlockStateAndOtp := by
  intro s hb r
  obtain ⟨t, hexec, hran, hdev⟩ := exec_controlWrite (i := .reset) rfl rfl rfl hb
  have hwrite : t.dev = allButOtp (Config.freeDevice s.calls 0) s.dev := hdev.trans deviceAfter_reset
  refine ⟨t, hexec, hran, image_plainOut _ (by decide), ?otp, fun hg => ⟨?ok, ?acc⟩⟩
  case otp => rw [hwrite]; rfl
  case ok => rw [hran.result_eq, hg]; rfl
  case acc =>
    obtain ⟨-, hacc, -⟩ := hran
    exact hacc hg

end Sys2Proof.Machine
end

section
/-! The DDS register writes (44_dds.md): the words of the four commands as numbers, what a bulk payload
does to the registers, and the frame of the sequencer, which issues GPIO requests alone. -/

namespace Sys2Proof.Machine

/-! ## The words (44_dds.md R140 to R145, 30_encoding.md R83) -/

/-- Settles O6: each word is read back as the tag and the value it was put together from. -/
theorem taggedWordsRoundTrip : Obligations.TaggedWordsRoundTrip := by
  refine ⟨fun reg v => ?freq, fun reg v => ?phase⟩
  case freq =>
    obtain ⟨htag0, htag1, hvalue⟩ := (freqWords_iff (reg := reg) (v := v)).2 ⟨rfl, rfl⟩
    cases reg <;> exact ⟨hvalue, htag0, htag1⟩
  case phase =>
    have htag : (phaseWord reg v).extractLsb' 12 4 = reg.tag := extract_append_high _ _
    cases reg <;> exact ⟨extract_append_low _ v, htag⟩

/-- A tag and a value side by side are the shifted tag and the value, or-ed. -/
theorem append_eq_or_ofNat {n m : Nat} (t : BitVec n) (x : BitVec m) :
    t ++ x = (t ++ 0#m) ||| BitVec.ofNat (n + m) x.toNat := by
  apply BitVec.eq_of_getLsbD_eq
  intro k hk
  have hx : (BitVec.ofNat (n + m) x.toNat).getLsbD k = x.getLsbD k := by
    simp [hk]
  rw [BitVec.getLsbD_or, BitVec.getLsbD_append, BitVec.getLsbD_append, hx]
  by_cases hkm : k < m
  · simp [hkm]
  · simp [hkm, BitVec.getLsbD_of_ge x k (Nat.le_of_not_lt hkm)]

theorem freqWordLow_eq_or (reg : FreqReg) (v : Nat) :
    freqWordLow reg (BitVec.ofNat 28 v) = (reg.tag ++ 0#14) ||| BitVec.ofNat 16 (v % 2 ^ 14) := by
  have hlow : ((BitVec.ofNat 28 v).extractLsb' 0 14).toNat = v % 2 ^ 14 := by
    simp only [BitVec.extractLsb'_toNat, BitVec.toNat_ofNat, Nat.shiftRight_zero]
    omega
  rw [freqWordLow, append_eq_or_ofNat, hlow]

theorem freqWordHigh_eq_or (reg : FreqReg) {v : Nat} (hv : v < 2 ^ 28) :
    freqWordHigh reg (BitVec.ofNat 28 v) = (reg.tag ++ 0#14) ||| BitVec.ofNat 16 (v / 2 ^ 14) := by
  have hhigh : ((BitVec.ofNat 28 v).extractLsb' 14 14).toNat = v / 2 ^ 14 := by
    simp only [BitVec.extractLsb'_toNat, BitVec.toNat_ofNat, Nat.shiftRight_eq_div_pow]
    omega
  rw [freqWordHigh, append_eq_or_ofNat, hhigh]

theorem phaseWord_eq_or (reg : PhaseReg) {v : Nat} (hv : v < 2 ^ 12) :
    phaseWord reg (BitVec.ofNat 12 v) = (reg.tag ++ 0#12) ||| BitVec.ofNat 16 v := by
  rw [phaseWord, append_eq_or_ofNat, BitVec.toNat_ofNat, Nat.mod_eq_of_lt hv]

/-- The mask of the amplitude word removes no bit (44_dds.md R142). -/
theorem ampWord_eq_ofNat (sh : AmpShift) {v : Nat} (hv : v < 2 ^ 10) :
    ampWord sh v = BitVec.ofNat 16 (v * 2 ^ sh.places) := by
  rw [← ampWord_toNat sh v hv, BitVec.ofNat_toNat, BitVec.setWidth_eq]

/-! ## One word at the DDS and at the amplitude register (20_memory.md R66, R67) -/

section
variable {f d : Dds}

/-- A word with `w[15:14]` = 0 is the control register's. -/
theorem ddsWord_ctrl {w : Half} (h : w.extractLsb' 14 2 = 0b00#2) :
    ddsWord f d w = { d with ctrl := w.extractLsb' 0 14 } := by
  simp [ddsWord, h]

/-- A frequency word acts on the register of its tag. -/
theorem ddsWord_freq {w : Half} {reg : FreqReg} (h : w.extractLsb' 14 2 = reg.tag) :
    ddsWord f d w = freqWordEffect f d reg (w.extractLsb' 0 14) := by
  cases reg <;> simp [ddsWord, h, FreqReg.tag]

theorem ddsWord_phase0 (v : BitVec 12) : ddsWord f d (phaseWord .phase0 v) = { d with phase0 := v } := by
  have htag : (phaseWord .phase0 v).extractLsb' 12 4 = 0b1100#4 := extract_append_high _ _
  have hval : (phaseWord .phase0 v).extractLsb' 0 12 = v := extract_append_low _ v
  simp only [ddsWord, extract_top2, getLsbD_13, htag, hval]
  rfl

theorem ddsWord_phase1 (v : BitVec 12) : ddsWord f d (phaseWord .phase1 v) = { d with phase1 := v } := by
  have htag : (phaseWord .phase1 v).extractLsb' 12 4 = 0b1110#4 := extract_append_high _ _
  have hval : (phaseWord .phase1 v).extractLsb' 0 12 = v := extract_append_low _ v
  simp only [ddsWord, extract_top2, getLsbD_13, htag, hval]
  rfl

/-- The first frequency word is latched. -/
theorem freqWordEffect_first (hb : b28 d = true) (hl : d.lsw = none) (reg : FreqReg) (v : BitVec 14) :
    freqWordEffect f d reg v = { d with lsw := some (reg, v) } := by
  simp [freqWordEffect, hb, hl]

/-- The second frequency word of the same register writes it, with the latched word below, and empties the
latch. -/
theorem freqWordEffect_second {g : Dds} (hb : b28 d = true) (hl : d.lsw = none) (reg : FreqReg)
    (low high : BitVec 14) :
    freqWordEffect g { d with lsw := some (reg, low) } reg high = setFreq d reg (high ++ low) := by
  have hb' : b28 { d with lsw := some (reg, low) } = true := hb
  cases reg <;> simp [freqWordEffect, hb', setFreq, hl]

/-- The two words of DDS_FREQ with B28 = 1 and the latch empty (44_dds.md R140). -/
theorem ddsWords_freq (draw : Nat → Dds) (hb : b28 d = true) (hl : d.lsw = none) (reg : FreqReg)
    (v : BitVec 28) :
    ddsWords draw 0 [freqWordLow reg v, freqWordHigh reg v] d = setFreq d reg v := by
  obtain ⟨htag0, htag1, hvalue⟩ := (freqWords_iff (reg := reg) (v := v)).2 ⟨rfl, rfl⟩
  simp only [ddsWords, ddsWord_freq htag0, ddsWord_freq htag1, freqWordEffect_first hb hl,
    freqWordEffect_second hb hl, hvalue]

end

/-- The amplitude register takes the amplitude its word carries, under either AMP_SHIFT. -/
theorem ampWrite_ampWord (sh : AmpShift) (f : BitVec 10) {v : Nat} (hv : v < 2 ^ 10) :
    ampWrite sh f [ampWord sh v] = BitVec.ofNat 10 v := by
  apply BitVec.eq_of_toNat_eq
  simp only [ampWrite, BitVec.extractLsb'_toNat, BitVec.toNat_ushiftRight, ampWord_toNat sh v hv,
    Nat.shiftRight_eq_div_pow, BitVec.toNat_ofNat, Nat.pow_zero, Nat.div_one,
    Nat.mul_div_cancel v (Nat.two_pow_pos sh.places)]

/-! ## A bulk payload at the device (20_memory.md R53, R66, R67) -/

section
variable {p : Params} {draw : Nat → Device} {d : Device} {ws : List Half} {c : Channel}

theorem bulkDelivered_frame :
    bulkDelivered p draw d ws =
      { d with dds := (bulkDelivered p draw d ws).dds, amp := (bulkDelivered p draw d ws).amp } := by
  unfold bulkDelivered
  split <;> rfl

theorem bulkDelivered_dds_of_ne (hc : soleChannel d.cs = some c) (hne : c ≠ p.ddsChannel) :
    (bulkDelivered p draw d ws).dds = d.dds := by
  simp [bulkDelivered, hc, hne]

theorem bulkDelivered_amp_of_ne (hc : soleChannel d.cs = some c) (hne : c ≠ p.ampChannel) :
    (bulkDelivered p draw d ws).amp = d.amp := by
  simp [bulkDelivered, hc, hne]

theorem bulkDelivered_dds (hc : soleChannel d.cs = some p.ddsChannel) :
    (bulkDelivered p draw d ws).dds = ddsWords (fun k => (draw k).dds) 0 ws d.dds := by
  simp [bulkDelivered, hc]

theorem bulkDelivered_amp (hc : soleChannel d.cs = some p.ampChannel) :
    (bulkDelivered p draw d ws).amp = ampWrite p.ampShift (draw 0).amp ws := by
  simp [bulkDelivered, hc]

end

/-- What a bulk write leaves of the device as it was, whether or not it succeeded: every field but the
DDS and amplitude registers, and these too where another channel is the only selected one. -/
structure BulkFrame (p : Params) (d d' : Device) : Prop where
  bridge : d' = { d with dds := d'.dds, amp := d'.amp }
  dds : ∀ c, soleChannel d.cs = some c → c ≠ p.ddsChannel → d'.dds = d.dds
  amp : ∀ c, soleChannel d.cs = some c → c ≠ p.ampChannel → d'.amp = d.amp

theorem bulkFrame_delivered (p : Params) (draw : Nat → Device) (d : Device) (ws : List Half) :
    BulkFrame p d (bulkDelivered p draw d ws) :=
  ⟨bulkDelivered_frame, fun _ => bulkDelivered_dds_of_ne, fun _ => bulkDelivered_amp_of_ne⟩

theorem bulkFrame_failed (p : Params) (f d : Device) (ws : List Half) :
    BulkFrame p d (bulkFailed p f d ws) :=
  ⟨bulkFailed_frame, fun _ => bulkFailed_dds_of_ne, fun _ => bulkFailed_amp_of_ne⟩

/-- A well-formed command that is a bulk write of SPI words: one transfer, no read data, the frame of a
bulk write, and on success the words delivered. -/
theorem exec_bulkWrite {i : Instr} {s : State} {op : Op} {ws : List Half}
    (hr : i.request s.params = some (bulkWrite (ws.flatMap be16))) (hws : issuedWords ws = true)
    (hop : instrOp i = some op) (hw : i.wf = true) (hb : s.busy = false) :
    ∃ t, exec i s = .next t ∧ ranOneTransfer s t op (bulkWrite (ws.flatMap be16)) s.rdata ∧
      BulkFrame s.params s.dev t.dev ∧
      (s.good (bulkWrite (ws.flatMap be16)) = true →
        t.dev = bulkDelivered s.params (Config.freeDevice s.calls) s.dev ws) := by
  have hdev := (s.exec1_dev op (bulkWrite (ws.flatMap be16))).trans (deviceAfter_bulkWrite hws)
  refine ⟨_, exec_eq_exec1 hr hop hw hb, s.exec1_ran op _, ?frame, fun hg => hdev.trans (if_pos hg)⟩
  case frame =>
    rw [hdev]
    split
    · exact bulkFrame_delivered _ _ _ _
    · exact bulkFrame_failed _ _ _ _

/-- The request of one SPI word, byte by byte (30_encoding.md R77, R83). -/
theorem bulkWrite_one (w : Half) :
    bulkWrite ([w].flatMap be16) = .bulkOut 0x01#8 [0#8, 0#8, 1#8, 0#8, 2#8, 0#8, 0#8, 0#8,
      w.extractLsb' 8 8, w.extractLsb' 0 8] := by
  have hlen : ([w].flatMap be16).length = 2 := rfl
  rw [bulkWrite, envelope, hlen]
  rfl

/-- The request of two SPI words, byte by byte. -/
theorem bulkWrite_two (w0 w1 : Half) :
    bulkWrite ([w0, w1].flatMap be16) = .bulkOut 0x01#8 [0#8, 0#8, 1#8, 0#8, 4#8, 0#8, 0#8, 0#8,
      w0.extractLsb' 8 8, w0.extractLsb' 0 8, w1.extractLsb' 8 8, w1.extractLsb' 0 8] := by
  have hlen : ([w0, w1].flatMap be16).length = 4 := rfl
  rw [bulkWrite, envelope, hlen]
  rfl

/-! ## The four commands (44_dds.md R140 to R146) -/

/-- Settles O28: the two words of the register, latched and written one after the other. -/
theorem ddsFreqWritesTheWholeRegister : Obligations.DdsFreqWritesTheWholeRegister := by
  intro s reg v hb hv tag w0 w1 bytes r i
  have htag : tag = reg.tag ++ 0#14 := by cases reg <;> rfl
  have hlow : freqWordLow reg (BitVec.ofNat 28 v) = w0 := by rw [freqWordLow_eq_or, ← htag]
  have hhigh : freqWordHigh reg (BitVec.ofNat 28 v) = w1 := by rw [freqWordHigh_eq_or reg hv, ← htag]
  have hreq : i.request s.params = some (bulkWrite ([w0, w1].flatMap be16)) := by
    rw [← hlow, ← hhigh]
    cases reg <;> rfl
  obtain ⟨t, hexec, hran, hframe, hgood⟩ :=
    exec_bulkWrite hreq (by rw [← hlow, ← hhigh]; exact freqWord_issued reg _) (op := .ddsFreq)
      (by cases reg <;> rfl) (by cases reg <;> exact decide_eq_true hv) hb
  rw [bulkWrite_two] at hran hgood
  refine ⟨t, hexec, hran, hframe.bridge, fun hg hc hb28 hlsw => ?_, hframe.dds, hframe.amp⟩
  rw [hgood hg, bulkDelivered_dds hc, ← hlow, ← hhigh, ddsWords_freq _ hb28 hlsw]
  cases reg <;> rfl

/-- Settles O29: the one word of the register, by its tag. -/
theorem ddsPhaseWritesItsRegister : Obligations.DdsPhaseWritesItsRegister := by
  intro s reg v hb hv tag w bytes r i
  have hword : phaseWord reg (BitVec.ofNat 12 v) = w := by
    rw [phaseWord_eq_or reg hv]
    cases reg <;> rfl
  have hreq : i.request s.params = some (bulkWrite ([w].flatMap be16)) := by
    rw [← hword]
    cases reg <;> rfl
  obtain ⟨t, hexec, hran, hframe, hgood⟩ :=
    exec_bulkWrite hreq (by rw [← hword]; exact phaseWord_issued reg _) (op := .ddsPhase)
      (by cases reg <;> rfl) (by cases reg <;> exact decide_eq_true hv) hb
  rw [bulkWrite_one] at hran hgood
  refine ⟨t, hexec, hran, hframe.bridge, fun hg hc => ?_, hframe.dds, hframe.amp⟩
  rw [hgood hg, bulkDelivered_dds hc, ← hword]
  cases reg with
  | phase0 => exact ddsWord_phase0 _
  | phase1 => exact ddsWord_phase1 _

/-- Settles O30: the word is the shifted amplitude, and the register takes it shifted back. -/
theorem ddsAmpWritesTheAmplitude : Obligations.DdsAmpWritesTheAmplitude := by
  intro s v hb hv w bytes r
  have hword : ampWord s.params.ampShift v = w := by
    rw [ampWord_eq_ofNat _ hv]
    simp only [w]
    cases s.params.ampShift <;> rfl
  have htop : w.extractLsb' 12 4 = 0#4 := by
    rw [← hword]
    exact ampWord_top _ v hv
  have hreq : (Instr.ddsAmp v).request s.params = some (bulkWrite ([w].flatMap be16)) := by
    rw [← hword]
    rfl
  obtain ⟨t, hexec, hran, hframe, hgood⟩ :=
    exec_bulkWrite hreq (by simp [issuedWords, htop]) rfl (decide_eq_true hv) hb
  rw [bulkWrite_one] at hran hgood
  refine ⟨htop, t, hexec, hran, hframe.bridge, fun hg hc => ?_, hframe.dds, hframe.amp⟩
  rw [hgood hg, bulkDelivered_amp hc, ← hword, ampWrite_ampWord _ _ hv]

/-- Settles O31: both shape words have `w[15:14]` = 0, so they are the control register's. -/
theorem ddsShapeWritesTheControlRegister : Obligations.DdsShapeWritesTheControlRegister := by
  intro s shape hb lo bytes r
  have hreq : (Instr.ddsShape shape).request s.params =
      some (bulkWrite ([shapeWord shape].flatMap be16)) := rfl
  have hr : bulkWrite ([shapeWord shape].flatMap be16) = r := by
    rw [bulkWrite_one]
    cases shape <;> rfl
  obtain ⟨t, hexec, hran, hframe, hgood⟩ :=
    exec_bulkWrite hreq (by cases shape <;> rfl) rfl rfl hb
  rw [hr] at hran hgood
  refine ⟨t, hexec, hran, hframe.bridge, fun hg hc => ?_, hframe.dds, hframe.amp⟩
  have hctrl : t.dev.dds = { s.dev.dds with ctrl := (shapeWord shape).extractLsb' 0 14 } := by
    rw [hgood hg, bulkDelivered_dds hc]
    exact ddsWord_ctrl (by cases shape <;> rfl)
  have hbits : ((shapeWord shape).extractLsb' 0 14).getLsbD 13 = true ∧
      ((shapeWord shape).extractLsb' 0 14).getLsbD 9 = true := by cases shape <;> decide
  rw [hctrl]
  exact ⟨by cases shape <;> rfl, hbits⟩

/-! ## The sequencer at the transfer port (44_dds.md R147, 42_gpio.md R117, R119) -/

/-- What one step of the sequencer does at the transfer port and the device: no call, the GPIO read, or
one write of DAC_EN_PIN. -/
inductive SequencerCall (s t : State) : Prop where
  | noCall (es : List Event) (hes : requestsOf es = []) (hdev : t.dev = s.dev)
      (htrace : t.trace = s.trace ++ es)
  | read (hdev : t.dev = (s.issue gpioGetRequest).dev)
      (htrace : t.trace = (s.issue gpioGetRequest).trace)
  | write (level : Nat) (hlevel : level < 2)
      (hdev : t.dev = (s.issue (gpioSetRequest s.params.dacEnPin level)).dev)
      (htrace : t.trace = (s.issue (gpioSetRequest s.params.dacEnPin level)).trace)

/-- No event. -/
theorem SequencerCall.silent {s t : State} (hdev : t.dev = s.dev) (htrace : t.trace = s.trace) :
    SequencerCall s t :=
  .noCall [] rfl hdev (by simp [htrace])

/-- The precheck is the GPIO read, however it ends. -/
theorem SequencerCall.runPrecheck (s : State) : SequencerCall s s.runPrecheck := by
  rcases s.runPrecheck_cases with ⟨-, he⟩ | ⟨-, -, he⟩ | ⟨-, -, -, he⟩ | ⟨-, -, -, he⟩ <;> rw [he] <;>
    exact .read (State.tryCall_dev _ _ _) (State.tryCall_trace _ _ _)

/-- A DAC-enable write is one call, however it ends. -/
theorem SequencerCall.dacWrite (s : State) {level : Nat} (hlevel : level < 2) (next : Phase) :
    SequencerCall s (s.dacWrite (gpioSetRequest s.params.dacEnPin level) next) := by
  rcases s.dacWrite_cases (gpioSetRequest s.params.dacEnPin level) next with ⟨-, he⟩ | ⟨-, he⟩ <;>
    rw [he] <;> exact .write level hlevel (State.tryCall_dev _ _ _) (State.tryCall_trace _ _ _)

theorem SequencerCall.runSymGap (s : State) : SequencerCall s s.runSymGap := by
  rcases s.runSymGap_cases with ⟨-, he⟩ | ⟨-, he⟩ <;> rw [he] <;>
    exact .noCall [.delay intraGapUnits] rfl rfl rfl

theorem dacOnLevel_lt (p : Params) : dacOnLevel p < 2 := by
  unfold dacOnLevel levelOf
  split <;> decide

theorem dacOffLevel_lt (p : Params) : dacOffLevel p < 2 :=
  Nat.lt_of_le_of_lt (Nat.sub_le 1 _) (by decide)

theorem SequencerCall.of_sequencerStep {s t : State} (h : sequencerStep s = .next t) :
    SequencerCall s t := by
  rcases sequencerStep_next_cases h with ⟨-, rfl⟩ | ⟨-, rfl⟩ | ⟨-, -, -, -, rfl⟩ | ⟨-, -, -, -, rfl⟩ |
    ⟨-, -, -, rfl⟩ | ⟨-, -, -, rfl⟩ | ⟨-, -, -, rfl⟩ | ⟨-, -, -, rfl⟩ | ⟨-, -, rfl⟩ | ⟨-, rfl⟩ |
    ⟨-, rfl⟩ | ⟨-, c, code, -, -, rfl⟩ | ⟨-, rfl⟩ | ⟨-, x, -, rfl⟩ | ⟨-, rfl⟩ | ⟨-, rfl⟩
  · exact .silent rfl rfl
  · exact .runPrecheck s
  · exact .silent rfl rfl
  · exact .silent rfl rfl
  · exact .silent rfl rfl
  · exact .silent rfl rfl
  · exact .silent rfl rfl
  · exact .silent rfl rfl
  · exact .silent rfl rfl
  · exact .noCall [.delay charGapUnits] rfl rfl rfl
  · exact .noCall [.echo 0x20#8, .delay wordGapUnits] rfl rfl (by simp)
  · exact .noCall [.echo c] rfl rfl rfl
  · exact .dacWrite s (dacOnLevel_lt _) _
  · exact .noCall [.delay (holdUnits x)] rfl rfl rfl
  · exact .dacWrite s (dacOffLevel_lt _) _
  · exact .runSymGap s

/-- A lane word that did not change. -/
theorem onlyLane_refl (pin : Pin) (w : Bytes2) : onlyLane pin w w := ⟨fun _ _ => rfl, fun _ _ => rfl⟩

/-- Settles O44: the read has no device effect, and a write of DAC_EN_PIN, good or failed, is masked to
its lane. -/
theorem sequencerTouchesOnlyGpio : Obligations.SequencerTouchesOnlyGpio := by
  intro s t h
  cases SequencerCall.of_sequencerStep h with
  | noCall es hes hdev htrace =>
    rw [hdev]
    exact ⟨rfl, onlyLane_refl _ _, es, htrace, by simp [hes]⟩
  | read hdev htrace =>
    rw [hdev, State.issue_dev, deviceAfter_gpioGet]
    exact ⟨rfl, onlyLane_refl _ _, _, htrace, by simp [requestsOf, gpioGetRequest, plainIn]⟩
  | write level hlevel hdev htrace =>
    rw [hdev, State.issue_dev, deviceAfter_gpioSet _ hlevel]
    refine ⟨rfl, maskedBytes_onlyLane _ _ _, _, htrace, ?_⟩
    interval_cases level <;> simp [requestsOf]

end Sys2Proof.Machine
end

section
/-! The code table and the classes of message bytes (45_morse.md R160 to R164), for every PUNCT_TABLE. -/

namespace Sys2Proof.Machine

/-! ## The classes (45_morse.md R164) -/

section
variable {p : Params} {c : Byte}

theorem isWs_iff : isWs c = true ↔ c = 0x20#8 ∨ c = 0x0A#8 := by simp [isWs]

theorem isWs_eq_false_iff : isWs c = false ↔ c ≠ 0x20#8 ∧ c ≠ 0x0A#8 := by simp [isWs]

theorem classOf_eq_ws_iff : classOf p c = .ws ↔ isWs c = true := by
  unfold classOf
  split_ifs with hws <;> simp [hws]

theorem classOf_eq_mapped_iff :
    classOf p c = .mapped ↔ isWs c = false ∧ ∃ code, tableCode p (fold c) = some code := by
  rw [← Option.isSome_iff_exists]
  unfold classOf
  split_ifs with hws hcode
  · simp [hws]
  all_goals simp [hws, hcode]

theorem classOf_eq_unmapped_iff :
    classOf p c = .unmapped ↔ isWs c = false ∧ tableCode p (fold c) = none := by
  rw [← Option.isNone_iff_eq_none, ← Option.not_isSome]
  unfold classOf
  split_ifs with hws hcode
  · simp [hws]
  all_goals simp [hws, hcode]

end

/-- Settles O35: folding by definition, each class by its own condition. -/
theorem byteClassesFollowTheTable : Obligations.ByteClassesFollowTheTable := fun _ _ =>
  ⟨rfl, classOf_eq_ws_iff.trans isWs_iff,
    by rw [classOf_eq_mapped_iff, isWs_eq_false_iff, and_assoc],
    by rw [classOf_eq_unmapped_iff, isWs_eq_false_iff, and_assoc]⟩

/-! ## The code table (45_morse.md R160 to R162) -/

/-- PUNCT_TABLE gives way to the table of letters and digits. -/
theorem tableCode_of_letterDigit {b : Byte} {code : List Symbol}
    (h : tableLookup letterDigitTable b = some code) (p : Params) : tableCode p b = some code := by
  rw [tableCode, h, Option.some_or]

/-- Every letter and digit is a key of the table: one evaluation for each byte. -/
theorem exists_letterDigit : ∀ b : Byte,
    0x41 ≤ b.toNat ∧ b.toNat ≤ 0x5A ∨ 0x30 ≤ b.toNat ∧ b.toNat ≤ 0x39 →
      (tableLookup letterDigitTable b).isSome = true := by
  decide

/-- Settles O34: `tableCode_spec`, the keys of the table of letters and digits, and its 36 rows. -/
theorem codeTableIsWellFormed : Obligations.CodeTableIsWellFormed := by
  refine ⟨fun p b code h => ?spec, fun p q b hb => ?letterDigit, fun p => ?rows⟩
  case spec =>
    obtain ⟨hne, hws⟩ := tableCode_spec h
    exact ⟨hne, isWs_eq_false_iff.1 hws⟩
  case letterDigit =>
    obtain ⟨code, hcode⟩ := Option.isSome_iff_exists.1 (exists_letterDigit b hb)
    have hp (p : Params) : tableCode p b = some code := tableCode_of_letterDigit hcode p
    simp [hp]
  case rows =>
    intro e he
    refine tableCode_of_letterDigit ?_ p
    revert e
    decide

end Sys2Proof.Machine
end

section
/-! The sequencer's micro-operations (45_morse.md R170 to R189): the step of each phase, the symbol as one
instruction and as its four steps, and that under the invariant the sequencer always goes on. -/

namespace Sys2Proof.Machine

/-! ## The step of the block while a MORSE command is active (70_reset_and_hazards.md R242) -/

section
variable {s : State}

theorem callerWaits_of_port_nil (h : s.port = []) : callerWaits s := by simp [callerWaits, h]

/-- A caller that waits presents nothing while a MORSE command is active. -/
theorem step_of_callerWaits (hactive : s.phase ≠ .idle) (hw : callerWaits s) :
    step s = sequencerStep s := by
  unfold step
  split
  · rfl
  · next q rest hport => simp [presentedNow, hactive, hw q rest hport]

/-- The same along a run, in which the port does not change. -/
theorem step_active {t u : State} (hw : callerWaits s) (hport : t.port = s.port) (hactive : t.phase ≠ .idle)
    (h : sequencerStep t = .next u) : step t = .next u :=
  (step_of_callerWaits hactive fun q rest hq => hw q rest (hport.symm.trans hq)).trans h

/-! ## The sequencer's step in each phase (45_morse.md R171 to R187) -/

theorem sequencerStep_precheck (hp : s.phase = .precheck) : sequencerStep s = .next s.runPrecheck := by
  simp [sequencerStep, hp, execSeqPrecheck, whenDue]

theorem sequencerStep_charGap (hp : s.phase = .charGap) : sequencerStep s = .next s.runCharGap := by
  simp [sequencerStep, hp, execSeqCharGap, whenDue]

theorem sequencerStep_wordGap (hp : s.phase = .wordGap) : sequencerStep s = .next s.runWordGap := by
  simp [sequencerStep, hp, execSeqWordGap, whenDue]

theorem sequencerStep_charStart {c : Byte} {code : List Symbol} (hp : s.phase = .charStart)
    (hc : s.current = some c) (hcode : tableCode s.params (fold c) = some code) :
    sequencerStep s = .next (s.runCharStart c code) := by
  simp [sequencerStep, hp, execSeqCharStart, hc, hcode]

theorem sequencerStep_symOn (hp : s.phase = .symOn) : sequencerStep s = .next s.runSymOn := by
  simp [sequencerStep, hp]

theorem sequencerStep_symHold {x : Symbol} (hp : s.phase = .symHold) (hx : s.code[s.sym]? = some x) :
    sequencerStep s = .next (s.runSymHold x) := by
  simp [sequencerStep, hp, hx]

theorem sequencerStep_symOff (hp : s.phase = .symOff) : sequencerStep s = .next s.runSymOff := by
  simp [sequencerStep, hp]

theorem sequencerStep_symGap (hp : s.phase = .symGap) : sequencerStep s = .next s.runSymGap := by
  simp [sequencerStep, hp]

end

/-! ## Dispatch in FETCH (45_morse.md R176 to R179) -/

section
variable {s : State} (hp : s.phase = .fetch)

theorem State.currentClass_eq {c : Byte} (hc : s.txt[s.pos]? = some c) :
    s.currentClass = some (classOf s.params c) := by
  simp [State.currentClass, State.current, hc]

theorem State.currentClass_at_end (h : s.pos = s.txt.length) : s.currentClass = none := by
  simp [State.currentClass, State.current, h]

include hp

theorem execSeqEnd_due (hend : s.pos = s.txt.length) (hgap : s.pendGap = false) :
    execSeqEnd s = .next (s.endWith .ok) := by
  simp [execSeqEnd, whenDue, hp, hend, hgap]

theorem execSeqSkipWs_due (hk : s.currentClass = some .ws) (hl : s.lastWS = true) :
    execSeqSkipWs s = .next s.skipByte := by
  simp [execSeqSkipWs, whenDue, hp, hk, hl]

theorem execSeqSkipUnmapped_due (hk : s.currentClass = some .unmapped) :
    execSeqSkipUnmapped s = .next s.skipByte := by
  simp [execSeqSkipUnmapped, whenDue, hp, hk]

theorem sequencerStep_fetch_end (hend : s.pos = s.txt.length) (hgap : s.pendGap = false) :
    sequencerStep s = .next (s.endWith .ok) := by
  simp [sequencerStep, hp, fetchStep, State.currentClass_at_end hend, hend, hgap, execSeqEnd_due hp]

theorem sequencerStep_fetch_end_owed (hend : s.pos = s.txt.length) (hgap : s.pendGap = true) :
    sequencerStep s = .next (s.toPhase .charGap) := by
  simp [sequencerStep, hp, fetchStep, State.currentClass_at_end hend, hend, hgap]

theorem sequencerStep_fetch_skipWs (hk : s.currentClass = some .ws) (hl : s.lastWS = true) :
    sequencerStep s = .next s.skipByte := by
  simp [sequencerStep, hp, fetchStep, hk, hl, execSeqSkipWs_due hp]

theorem sequencerStep_fetch_wordGap (hk : s.currentClass = some .ws) (hl : s.lastWS = false) :
    sequencerStep s = .next (s.toPhase .wordGap) := by
  simp [sequencerStep, hp, fetchStep, hk, hl]

theorem sequencerStep_fetch_charGap (hk : s.currentClass = some .mapped) (hgap : s.pendGap = true) :
    sequencerStep s = .next (s.toPhase .charGap) := by
  simp [sequencerStep, hp, fetchStep, hk, hgap]

theorem sequencerStep_fetch_charStart (hk : s.currentClass = some .mapped) (hgap : s.pendGap = false) :
    sequencerStep s = .next (s.toPhase .charStart) := by
  simp [sequencerStep, hp, fetchStep, hk, hgap]

theorem sequencerStep_fetch_skipUnmapped (hk : s.currentClass = some .unmapped) :
    sequencerStep s = .next s.skipByte := by
  simp [sequencerStep, hp, fetchStep, hk, execSeqSkipUnmapped_due hp]

end

/-! ## The micro-operations without a transfer (45_morse.md R170, R176 to R183) -/

/-- Settles O36: MORSE has no operand that could be too wide. -/
theorem morseIsAcceptedAndLatched : Obligations.MorseIsAcceptedAndLatched :=
  fun _ text hb => portCommand_ready (run := fun s => s.acceptMorse text) hb rfl

/-- Settles O38: each is due where its rule says, and the dispatch in FETCH runs it there. -/
theorem silentMicroOperations : Obligations.SilentMicroOperations := by
  intro s hp
  have hstep : step { s with port := [] } = sequencerStep { s with port := [] } :=
    step_of_callerWaits (by simp [hp]) (callerWaits_of_port_nil rfl)
  refine ⟨fun hend hgap => ⟨execSeqEnd_due hp hend hgap, ?_⟩, fun c hc => ⟨fun hk hl => ?_, fun hk => ?_⟩⟩
  · exact hstep.trans (sequencerStep_fetch_end hp hend hgap)
  · have hclass : s.currentClass = some .ws := (State.currentClass_eq hc).trans (congrArg some hk)
    exact ⟨execSeqSkipWs_due hp hclass hl, hstep.trans (sequencerStep_fetch_skipWs hp hclass hl)⟩
  · have hclass : s.currentClass = some .unmapped := (State.currentClass_eq hc).trans (congrArg some hk)
    exact ⟨execSeqSkipUnmapped_due hp hclass, hstep.trans (sequencerStep_fetch_skipUnmapped hp hclass)⟩

/-- Settles O39: the four dispatches of the sequencer's step that enter a phase. -/
theorem fetchDispatches : Obligations.FetchDispatches := by
  intro s hp hport
  rw [step_of_callerWaits (by simp [hp]) (callerWaits_of_port_nil hport)]
  refine ⟨fun c hc => ?_, sequencerStep_fetch_end_owed hp⟩
  have hclass {k : ByteClass} (hk : classOf s.params c = k) : s.currentClass = some k :=
    (State.currentClass_eq hc).trans (congrArg some hk)
  exact ⟨fun hk => sequencerStep_fetch_wordGap hp (hclass hk),
    fun hk => sequencerStep_fetch_charGap hp (hclass hk),
    fun hk => sequencerStep_fetch_charStart hp (hclass hk)⟩

/-- Settles O40: each instruction is the sequencer's step in its phase. -/
theorem gapsAndCharacterStart : Obligations.GapsAndCharacterStart := by
  refine fun s => ⟨fun hp => ?_, fun hp => ?_, fun hp c code hc hcode => ?_⟩
  · have h : exec .seqCharGap s = sequencerStep s := by simp only [sequencerStep, hp, exec]
    exact h.trans (sequencerStep_charGap hp)
  · have h : exec .seqWordGap s = sequencerStep s := by simp only [sequencerStep, hp, exec]
    rw [h, sequencerStep_wordGap hp]
    simp [State.runWordGap, State.emit, wordGapUnits]
  · have h : exec .seqCharStart s = sequencerStep s := by simp only [sequencerStep, hp, exec]
    exact h.trans (sequencerStep_charStart hp hc hcode)

/-! ## A call and how it is recorded (41_spi_config.md R100, 60_exceptions.md R203) -/

section
variable {s : State} {op : Op} {r : Request}

theorem State.tryCall_of_good (h : s.good r = true) : s.tryCall op r = s.issue r := by
  simp [State.tryCall, h]

theorem State.tryCall_of_failed (h : s.good r = false) : s.tryCall op r = (s.issue r).raise op r.ident := by
  simp [State.tryCall, h]

theorem State.dacWrite_of_good {next : Phase} (h : s.good r = true) :
    s.dacWrite r next = (s.issue r).toPhase next := by
  simp [State.dacWrite, h, State.tryCall_of_good]

theorem State.dacWrite_of_failed {next : Phase} (h : s.good r = false) :
    s.dacWrite r next = (s.tryCall .gpioSet r).endWith .fail := by
  simp [State.dacWrite, h]

end

/-- Settles O37: the four ends of the precheck. -/
theorem precheckReadsAndDecides : Obligations.PrecheckReadsAndDecides := by
  intro s hp r
  have hexec : exec .seqPrecheck s = sequencerStep s := by simp only [sequencerStep, hp, exec]
  refine ⟨_, hexec.trans (sequencerStep_precheck hp), ?_⟩
  rcases s.runPrecheck_cases with ⟨hg, he⟩ | ⟨hg, hgen, he⟩ | ⟨hg, hgen, hdac, he⟩ | ⟨hg, hgen, hdac, he⟩
  case inl =>
    rw [he, State.tryCall_of_failed hg]
    exact ⟨rfl, fun _ => ⟨rfl, rfl, rfl, _, rfl⟩, fun hgood => (by cases hg.symm.trans hgood)⟩
  all_goals
    rw [he, State.tryCall_of_good hg]
    refine ⟨rfl, fun hbad => (by cases hg.symm.trans hbad), fun _ =>
      ⟨s.readBack 0x20#8, State.reply_ctrlIn hg, rfl, ?_⟩⟩
  case inr.inl => simp [hgen]
  case inr.inr.inl => simp [hgen, hdac]
  case inr.inr.inr => simp [hgen, hdac]

/-! ## The DAC-enable writes (45_morse.md R184, R186, 42_gpio.md R117, R119) -/

theorem State.reply_gpioSet {s : State} {pin : Pin} {level : Nat}
    (h : s.good (gpioSetRequest pin level) = true) : s.reply (gpioSetRequest pin level) = .ok 4 [] :=
  State.reply_ctrlOut h

/-- A write of DAC_EN_PIN, good or failed, changes its lane alone (log 7). -/
theorem State.issue_gpioSet_lane (s : State) (pin : Pin) {level : Nat} (h : level < 2) :
    (s.issue (gpioSetRequest pin level)).dev =
      { s.dev with gpio := (s.issue (gpioSetRequest pin level)).dev.gpio } ∧
    onlyLane pin s.dev.gpio (s.issue (gpioSetRequest pin level)).dev.gpio := by
  rw [State.issue_dev, deviceAfter_gpioSet pin h]
  exact ⟨rfl, maskedBytes_onlyLane pin _ _⟩

/-- A write that succeeds drives its pin to its level. -/
theorem State.pinLevel_issue_gpioSet {s : State} {pin : Pin} {level : Nat} (h : level < 2)
    (hg : s.good (gpioSetRequest pin level) = true) :
    pinLevel pin (s.issue (gpioSetRequest pin level)).dev.gpio = decide (level = 1) := by
  rw [State.issue_dev, deviceAfter_gpioSet pin h, hg, pinLevel_gpioWrite _ _ pin h]

theorem dacOnLevel_eq_one (p : Params) : decide (dacOnLevel p = 1) = p.dacEnActive := by
  cases h : p.dacEnActive <;> simp [dacOnLevel, levelOf, h]

theorem dacOffLevel_eq_one (p : Params) : decide (dacOffLevel p = 1) = !p.dacEnActive := by
  cases h : p.dacEnActive <;> simp [dacOffLevel, dacOnLevel, levelOf, h]

/-- What a DAC-enable write does (45_morse.md R184, R186, R188): one call, which changes no device field
but its lane; on to the next phase with the line at the level written, or the end FAIL with one entry. -/
theorem State.dacWrite_spec (s : State) {level : Nat} (hlevel : level < 2) (next : Phase) :
    let r : Request := gpioSetRequest s.params.dacEnPin level
    let t : State := s.dacWrite r next
    t = { s with
        phase := t.phase
        busy := t.busy
        result := t.result
        acc := t.acc
        dev := t.dev
        trace := s.trace ++ [.xfer r (s.reply r)]
        answers := s.answers.tail
        calls := s.calls + 1 } ∧
      t.dev = { s.dev with gpio := t.dev.gpio } ∧
      onlyLane s.params.dacEnPin s.dev.gpio t.dev.gpio ∧
      (s.good r = true → t.phase = next ∧ t.busy = s.busy ∧ t.result = s.result ∧ t.acc = s.acc ∧
        pinLevel s.params.dacEnPin t.dev.gpio = decide (level = 1)) ∧
      (s.good r = false → t.phase = .idle ∧ t.busy = false ∧ t.result = .fail ∧
        ∃ msg, t.acc =
          { entries := s.acc.entries ++ [{ op := .gpioSet, req := .ctrlOut 0x21#8, msg := msg }],
            count := s.acc.count + 1 }) := by
  intro r t
  obtain ⟨hdev, hlane⟩ := s.issue_gpioSet_lane s.params.dacEnPin hlevel
  cases hg : s.good r with
  | true =>
    have ht : t = (s.issue r).toPhase next := State.dacWrite_of_good hg
    rw [ht]
    exact ⟨rfl, hdev, hlane, fun _ => ⟨rfl, rfl, rfl, rfl, State.pinLevel_issue_gpioSet hlevel hg⟩, nofun⟩
  | false =>
    have ht : t = ((s.issue r).raise .gpioSet r.ident).endWith .fail :=
      (State.dacWrite_of_failed hg).trans (congrArg (State.endWith · .fail) (State.tryCall_of_failed hg))
    rw [ht]
    exact ⟨rfl, hdev, hlane, nofun, fun _ => ⟨rfl, rfl, rfl, _, rfl⟩⟩

/-- Settles O41: the two writes are DAC-enable writes; the two delays are the sequencer's steps. -/
theorem symbolStepsDriveTheDac : Obligations.SymbolStepsDriveTheDac := by
  intro s hport active on off
  have hstep {ph : Phase} (hp : s.phase = ph) (hne : ph ≠ .idle) : step s = sequencerStep s :=
    step_of_callerWaits (hp ▸ hne) (callerWaits_of_port_nil hport)
  refine ⟨?writes, fun hp hx => ?dot, fun hp hx => ?dash, fun hp hmore => ?next, fun hp hend => ?last⟩
  case writes =>
    rintro ph next r line (⟨rfl, rfl, rfl, rfl⟩ | ⟨rfl, rfl, rfl, rfl⟩) hp
    · refine ⟨_, (hstep hp (by decide)).trans (sequencerStep_symOn hp), ?_⟩
      rw [← dacOnLevel_eq_one]
      exact s.dacWrite_spec (dacOnLevel_lt _) .symHold
    · refine ⟨_, (hstep hp (by decide)).trans (sequencerStep_symOff hp), ?_⟩
      rw [← dacOffLevel_eq_one]
      exact s.dacWrite_spec (dacOffLevel_lt _) .symGap
  case dot | dash => exact (hstep hp (by decide)).trans (sequencerStep_symHold hp hx)
  case next =>
    rw [hstep hp (by decide), sequencerStep_symGap hp, State.runSymGap, if_pos hmore]
    rfl
  case last =>
    rw [hstep hp (by decide), sequencerStep_symGap hp, State.runSymGap, if_neg (Nat.not_lt.2 hend)]
    rfl

end Sys2Proof.Machine
end

section
/-! A whole symbol (45_morse.md R189): as one instruction, as its four steps, and what it leaves; and the
steps of the sequencer under the invariant: one is always due, and the last leaves what R197 says. -/

namespace Sys2Proof.Machine

/-! ## One pulse (45_morse.md R184 to R187) -/

/-- After a DAC_ON that succeeded and the hold of symbol `x`. -/
def State.held (s : State) (x : Symbol) : State :=
  (s.issue (dacOnRequest s.params)).emit (.delay (holdUnits x))

/-- After a whole symbol `x` of which both writes succeeded. -/
def State.pulse (s : State) (x : Symbol) : State :=
  ((s.held x).issue (dacOffRequest s.params)).emit (.delay intraGapUnits)

@[simp] theorem State.held_params (s : State) (x : Symbol) : (s.held x).params = s.params := by
  simp [State.held]

@[simp] theorem State.held_port (s : State) (x : Symbol) : (s.held x).port = s.port := by
  simp [State.held]

@[simp] theorem State.held_code (s : State) (x : Symbol) : (s.held x).code = s.code := by
  simp [State.held]

@[simp] theorem State.held_sym (s : State) (x : Symbol) : (s.held x).sym = s.sym := by
  simp [State.held]

@[simp] theorem State.pulse_params (s : State) (x : Symbol) : (s.pulse x).params = s.params := by
  simp [State.pulse]

@[simp] theorem State.pulse_phase (s : State) (x : Symbol) : (s.pulse x).phase = s.phase := by
  simp [State.pulse, State.held]

@[simp] theorem State.pulse_result (s : State) (x : Symbol) : (s.pulse x).result = s.result := by
  simp [State.pulse, State.held]

@[simp] theorem State.pulse_rdata (s : State) (x : Symbol) : (s.pulse x).rdata = s.rdata := by
  simp [State.pulse, State.held]

@[simp] theorem State.pulse_acc (s : State) (x : Symbol) : (s.pulse x).acc = s.acc := by
  simp [State.pulse, State.held]

@[simp] theorem State.pulse_txt (s : State) (x : Symbol) : (s.pulse x).txt = s.txt := by
  simp [State.pulse, State.held]

@[simp] theorem State.pulse_pos (s : State) (x : Symbol) : (s.pulse x).pos = s.pos := by
  simp [State.pulse, State.held]

@[simp] theorem State.pulse_lastWS (s : State) (x : Symbol) : (s.pulse x).lastWS = s.lastWS := by
  simp [State.pulse, State.held]

@[simp] theorem State.pulse_code (s : State) (x : Symbol) : (s.pulse x).code = s.code := by
  simp [State.pulse]

@[simp] theorem State.pulse_sym (s : State) (x : Symbol) : (s.pulse x).sym = s.sym := by
  simp [State.pulse]

@[simp] theorem State.pulse_port (s : State) (x : Symbol) : (s.pulse x).port = s.port := by
  simp [State.pulse]

@[simp] theorem State.pulse_calls (s : State) (x : Symbol) : (s.pulse x).calls = s.calls + 2 := by
  simp [State.pulse, State.held]

/-- The registers after a symbol (45_morse.md R187): on to the next one, or the byte is consumed and a gap
is owed. -/
def State.nextSymbol (s : State) : State :=
  if s.sym + 1 < s.code.length then { s with sym := s.sym + 1, phase := .symOn }
  else { s with sym := s.sym + 1, pendGap := true, pos := s.pos + 1, phase := .fetch }

section
variable {s : State} {x : Symbol}

/-- SYM_GAP is a delay and `nextSymbol`, which overwrites the phase. -/
theorem State.toPhase_runSymGap (s : State) (ph : Phase) :
    (s.toPhase ph).runSymGap = (s.emit (.delay intraGapUnits)).nextSymbol := rfl

/-- `nextSymbol` writes sequencer registers alone. -/
theorem State.nextSymbol_frame (s : State) :
    s.nextSymbol = { s with
      sym := s.sym + 1
      pendGap := s.nextSymbol.pendGap
      pos := s.nextSymbol.pos
      phase := s.nextSymbol.phase } := by
  unfold State.nextSymbol
  split <;> rfl

/-- DAC_ON and the hold, as steps. -/
theorem State.runSymOn_runSymHold (h : s.good (dacOnRequest s.params) = true) :
    s.runSymOn.runSymHold x = (s.held x).toPhase .symOff := by
  rw [State.runSymOn, State.dacWrite_of_good h]
  rfl

/-- The end of a MORSE command leaves nothing of the phase it ends in. -/
theorem State.tryCall_toPhase_endWith (s : State) (op : Op) (r : Request) (ph : Phase) (res : Result) :
    ((s.toPhase ph).tryCall op r).endWith res = (s.tryCall op r).endWith res := by
  cases hg : s.good r with
  | true => rw [State.tryCall_of_good hg, State.tryCall_of_good (s := s.toPhase ph) hg]; rfl
  | false => rw [State.tryCall_of_failed hg, State.tryCall_of_failed (s := s.toPhase ph) hg]; rfl

/-- SYM_OFF after a hold, where DAC_OFF succeeds. -/
theorem State.toPhase_runSymOff_of_good {ph : Phase} (h : s.good (dacOffRequest s.params) = true) :
    (s.toPhase ph).runSymOff = (s.issue (dacOffRequest s.params)).toPhase .symGap :=
  State.dacWrite_of_good h

/-- SYM_OFF after a hold, where DAC_OFF fails. -/
theorem State.toPhase_runSymOff_of_failed {ph : Phase} (h : s.good (dacOffRequest s.params) = false) :
    (s.toPhase ph).runSymOff = (s.tryCall .gpioSet (dacOffRequest s.params)).endWith .fail :=
  (State.dacWrite_of_failed (s := s.toPhase ph) h).trans (s.tryCall_toPhase_endWith _ _ _ _)

/-- SYM_OFF of symbol `x`, where DAC_OFF succeeds. -/
theorem State.held_runSymOff_of_good (hoff : (s.held x).good (dacOffRequest s.params) = true) :
    ((s.held x).toPhase .symOff).runSymOff =
      ((s.held x).issue (dacOffRequest s.params)).toPhase .symGap := by
  rw [← s.held_params x] at hoff ⊢
  exact State.toPhase_runSymOff_of_good hoff

/-- SYM_OFF of symbol `x`, where DAC_OFF fails. -/
theorem State.held_runSymOff_of_failed (hoff : (s.held x).good (dacOffRequest s.params) = false) :
    ((s.held x).toPhase .symOff).runSymOff =
      ((s.held x).tryCall .gpioSet (dacOffRequest s.params)).endWith .fail := by
  rw [← s.held_params x] at hoff ⊢
  exact State.toPhase_runSymOff_of_failed hoff

/-- A symbol after its DAC_ON and hold: SYM_OFF, and SYM_GAP where DAC_OFF succeeds. -/
theorem State.runSymbol_of_onGood (hon : s.good (dacOnRequest s.params) = true) :
    s.runSymbol x =
      if (s.held x).good (dacOffRequest s.params) then ((s.held x).toPhase .symOff).runSymOff.runSymGap
      else ((s.held x).toPhase .symOff).runSymOff := by
  simp only [State.runSymbol, if_pos hon, State.runSymOn_runSymHold hon]
  rfl

/-- A symbol of which both writes succeed. -/
theorem State.runSymbol_of_good (hon : s.good (dacOnRequest s.params) = true)
    (hoff : (s.held x).good (dacOffRequest s.params) = true) : s.runSymbol x = (s.pulse x).nextSymbol := by
  rw [State.runSymbol_of_onGood hon, if_pos hoff, State.held_runSymOff_of_good hoff,
    State.toPhase_runSymGap, State.pulse]

/-- A symbol whose DAC_OFF fails (45_morse.md R188). -/
theorem State.runSymbol_of_offFailed (hon : s.good (dacOnRequest s.params) = true)
    (hoff : (s.held x).good (dacOffRequest s.params) = false) :
    s.runSymbol x = ((s.held x).tryCall .gpioSet (dacOffRequest s.params)).endWith .fail := by
  rw [State.runSymbol_of_onGood hon, if_neg (by simp [hoff]), State.held_runSymOff_of_failed hoff]

/-- A symbol whose DAC_ON fails (45_morse.md R188). -/
theorem State.runSymbol_of_onFailed (hon : s.good (dacOnRequest s.params) = false) :
    s.runSymbol x = (s.tryCall .gpioSet (dacOnRequest s.params)).endWith .fail := by
  rw [State.runSymbol, if_neg (by simp [hon]), State.runSymOn, State.dacWrite_of_failed hon]

/-! ## What a pulse leaves (42_gpio.md R117, R119, 45_morse.md R191) -/

theorem onlyLane_trans {pin : Pin} {a b c : Bytes2} (hab : onlyLane pin a b) (hbc : onlyLane pin b c) :
    onlyLane pin a c :=
  ⟨fun k hk => (hbc.1 k hk).trans (hab.1 k hk), fun k hk => (hbc.2 k hk).trans (hab.2 k hk)⟩

/-- The events of one pulse (45_morse.md R189). -/
def pulseEvents (p : Params) (x : Symbol) : List Event :=
  [.xfer (dacOnRequest p) (.ok 4 []), .delay (holdUnits x), .xfer (dacOffRequest p) (.ok 4 []),
    .delay intraGapUnits]

theorem State.pulse_trace (hon : s.good (dacOnRequest s.params) = true)
    (hoff : (s.held x).good (dacOffRequest s.params) = true) :
    (s.pulse x).trace = s.trace ++ pulseEvents s.params x := by
  have honReply : s.reply (dacOnRequest s.params) = .ok 4 [] := State.reply_gpioSet hon
  have hoffReply : (s.held x).reply (dacOffRequest s.params) = .ok 4 [] := State.reply_gpioSet hoff
  simp only [State.pulse, State.emit_trace, State.issue_trace, hoffReply]
  simp [State.held, honReply, pulseEvents]

/-- A pulse changes no device field but the lane of DAC_EN_PIN (log 7). -/
theorem State.pulse_lane (s : State) (x : Symbol) :
    (s.pulse x).dev = { s.dev with gpio := (s.pulse x).dev.gpio } ∧
      onlyLane s.params.dacEnPin s.dev.gpio (s.pulse x).dev.gpio := by
  obtain ⟨hon, honLane⟩ := s.issue_gpioSet_lane s.params.dacEnPin (dacOnLevel_lt s.params)
  obtain ⟨hoff, hoffLane⟩ := (s.held x).issue_gpioSet_lane s.params.dacEnPin (dacOffLevel_lt s.params)
  have hheld : (s.held x).dev = (s.issue (gpioSetRequest s.params.dacEnPin (dacOnLevel s.params))).dev :=
    State.emit_dev _ _
  rw [hheld] at hoff hoffLane
  rw [State.pulse, State.emit_dev, dacOffRequest]
  refine ⟨hoff.trans ?_, onlyLane_trans honLane hoffLane⟩
  rw [hon]

/-- A pulse leaves the DAC-enable line inactive. -/
theorem State.pulse_level (hoff : (s.held x).good (dacOffRequest s.params) = true) :
    pinLevel s.params.dacEnPin (s.pulse x).dev.gpio = !s.params.dacEnActive :=
  (State.pinLevel_issue_gpioSet (dacOffLevel_lt s.params) hoff).trans (dacOffLevel_eq_one _)

end

/-- The instruction of a symbol. -/
def symbolInstr : Symbol → Instr
  | .dot => .seqDot
  | .dash => .seqDash

theorem exec_symbolInstr {s : State} {x : Symbol} (hp : s.phase = .symOn) (hx : s.code[s.sym]? = some x) :
    exec (symbolInstr x) s = .next (s.runSymbol x) := by
  cases x <;> simp [symbolInstr, exec, execSeqDot, execSeqDash, whenDue, hp, hx]

/-- Settles O42: where both writes succeed the instruction is one pulse. -/
theorem dotAndDashEmitTheirEvents : Obligations.DotAndDashEmitTheirEvents := by
  intro s x hp hx held active on off hold hon hheld
  have hoff : (s.held x).good (dacOffRequest s.params) = true := by
    have hh : held = (s.held x).toPhase .symOff := State.runSymOn_runSymHold hon
    rw [hh] at hheld
    exact hheld
  have hexec : exec (symbolInstr x) s = .next (s.pulse x).nextSymbol :=
    (exec_symbolInstr hp hx).trans (congrArg _ (State.runSymbol_of_good hon hoff))
  have hhold : holdUnits x = hold := by cases x <;> rfl
  refine ⟨_, pulseEvents s.params x, hexec, ?_⟩
  rw [State.nextSymbol_frame]
  dsimp only
  refine ⟨State.pulse_trace hon hoff, ?_, ?_, by simp, by simp, by simp, by simp, by simp, by simp,
    by simp, by simp, State.pulse_level hoff, s.pulse_lane x⟩
  · rw [← hhold]; rfl
  · rw [← hhold]; rfl

/-! ## The small steps of a symbol (45_morse.md R184 to R188) -/

theorem core_run_succ {s u t : State} {n : Nat} (hs : step s = .next u)
    (hr : Sys2Proof.core.run n u = .next t) : Sys2Proof.core.run (n + 1) s = .next t := by
  have hcore : Sys2Proof.core.step s = .next u := hs
  simp only [Host.Core.run, hcore]
  exact hr

/-- From SYM_ON at symbol `x`, with a caller that waits, the steps compute `runSymbol`. -/
theorem run_symbol {s : State} {x : Symbol} (hp : s.phase = .symOn) (hw : callerWaits s)
    (hx : s.code[s.sym]? = some x) :
    ∃ k, 1 ≤ k ∧ k ≤ 4 ∧ Sys2Proof.core.run k s = .next (s.runSymbol x) ∧
      (k < 4 → (s.runSymbol x).phase = .idle ∧ (s.runSymbol x).result = .fail) := by
  have hstepOn : step s = .next s.runSymOn :=
    (step_of_callerWaits (by simp [hp]) hw).trans (sequencerStep_symOn hp)
  cases hon : s.good (dacOnRequest s.params) with
  | false =>
    have he : s.runSymOn = s.runSymbol x := by
      rw [State.runSymbol_of_onFailed hon, State.runSymOn, State.dacWrite_of_failed hon]
    refine ⟨1, by decide, by decide, core_run_succ hstepOn (congrArg _ he), fun _ => ?_⟩
    rw [State.runSymbol_of_onFailed hon]
    exact ⟨rfl, rfl⟩
  | true =>
    have heOn : s.runSymOn = (s.issue (dacOnRequest s.params)).toPhase .symHold := State.dacWrite_of_good hon
    have hstepHold : step s.runSymOn = .next ((s.held x).toPhase .symOff) := by
      rw [← State.runSymOn_runSymHold hon, heOn]
      exact step_active hw (by simp) (by simp) (sequencerStep_symHold rfl hx)
    have hstepOff : step ((s.held x).toPhase .symOff) = .next ((s.held x).toPhase .symOff).runSymOff :=
      step_active hw (by simp) (by simp) (sequencerStep_symOff rfl)
    cases hoff : (s.held x).good (dacOffRequest s.params) with
    | false =>
      have he : ((s.held x).toPhase .symOff).runSymOff = s.runSymbol x := by
        rw [State.runSymbol_of_offFailed hon hoff, State.held_runSymOff_of_failed hoff]
      refine ⟨3, by decide, by decide, core_run_succ hstepOn (core_run_succ hstepHold
        (core_run_succ hstepOff (congrArg _ he))), fun _ => ?_⟩
      rw [State.runSymbol_of_offFailed hon hoff]
      exact ⟨rfl, rfl⟩
    | true =>
      have hstepGap : step ((s.held x).toPhase .symOff).runSymOff = .next (s.runSymbol x) := by
        rw [State.held_runSymOff_of_good hoff, State.runSymbol_of_good hon hoff, State.pulse,
          ← State.toPhase_runSymGap _ .symGap]
        exact step_active hw (by simp) (by simp) (sequencerStep_symGap rfl)
      exact ⟨4, by decide, by decide, core_run_succ hstepOn (core_run_succ hstepHold
        (core_run_succ hstepOff (core_run_succ hstepGap rfl))), fun hk => absurd hk (Nat.lt_irrefl 4)⟩

/-- Settles O43: the instruction and the steps both are `runSymbol`. -/
theorem symbolIsItsSmallSteps : Obligations.SymbolIsItsSmallSteps := by
  intro s x hp hport hx
  obtain ⟨k, hk1, hk4, hrun, hend⟩ := run_symbol hp (callerWaits_of_port_nil hport) hx
  exact ⟨_, k, exec_symbolInstr hp hx, hk1, hk4, hrun, hend⟩

/-! ## The sequencer under the invariant (93_implementation_defined.md part 1, 45_morse.md R197) -/

/-- In FETCH some dispatch applies: at the end of the text, or by the class of the byte. -/
theorem exists_sequencerStep_fetch {s : State} (hp : s.phase = .fetch) (hpos : s.pos ≤ s.txt.length) :
    ∃ t, sequencerStep s = .next t := by
  rcases hpos.eq_or_lt with hend | hlt
  · cases hgap : s.pendGap with
    | false => exact ⟨_, sequencerStep_fetch_end hp hend hgap⟩
    | true => exact ⟨_, sequencerStep_fetch_end_owed hp hend hgap⟩
  · have hclass := State.currentClass_eq (List.getElem?_eq_getElem hlt)
    cases hk : classOf s.params s.txt[s.pos] <;> rw [hk] at hclass
    case ws =>
      cases hl : s.lastWS with
      | false => exact ⟨_, sequencerStep_fetch_wordGap hp hclass hl⟩
      | true => exact ⟨_, sequencerStep_fetch_skipWs hp hclass hl⟩
    case mapped =>
      cases hgap : s.pendGap with
      | false => exact ⟨_, sequencerStep_fetch_charStart hp hclass hgap⟩
      | true => exact ⟨_, sequencerStep_fetch_charGap hp hclass hgap⟩
    case unmapped => exact ⟨_, sequencerStep_fetch_skipUnmapped hp hclass⟩

/-- Under the invariant the sequencer always goes on. -/
theorem Inv.exists_sequencerStep {s : State} (h : Inv s) : ∃ t, sequencerStep s = .next t := by
  cases hp : s.phase with
  | idle => exact ⟨s, by simp [sequencerStep, hp]⟩
  | precheck => exact ⟨_, sequencerStep_precheck hp⟩
  | fetch => exact exists_sequencerStep_fetch hp h.pos
  | charGap => exact ⟨_, sequencerStep_charGap hp⟩
  | wordGap => exact ⟨_, sequencerStep_wordGap hp⟩
  | charStart =>
    obtain ⟨c, hc, hk⟩ := Option.map_eq_some_iff.1 (h.charStart hp).2
    obtain ⟨-, code, hcode⟩ := classOf_eq_mapped_iff.1 hk
    exact ⟨_, sequencerStep_charStart hp hc hcode⟩
  | symOn => exact ⟨_, sequencerStep_symOn hp⟩
  | symHold =>
    obtain ⟨-, -, hsym, -⟩ := h.inSymbol (by rw [hp]; rfl)
    exact ⟨_, sequencerStep_symHold hp (List.getElem?_eq_getElem hsym)⟩
  | symOff => exact ⟨_, sequencerStep_symOff hp⟩
  | symGap => exact ⟨_, sequencerStep_symGap hp⟩

theorem portCommand_ne_fault (fits : Bool) (s : State) (run : State → State) (f : Fault) :
    portCommand fits s run ≠ .fault f := by
  unfold portCommand
  split_ifs <;> nofun

/-- Settles O59: a command is accepted or refused, and the sequencer always goes on. -/
theorem noFaultUnderTheInvariant : Obligations.NoFaultUnderTheInvariant := by
  intro s h
  obtain ⟨t, hseq⟩ := h.exists_sequencerStep
  refine ⟨fun f hf => ?_, fun hb hw => ⟨t, (step_of_callerWaits (h.busy.1 hb) hw).trans hseq⟩⟩
  unfold step at hf
  split at hf
  · cases hseq.symm.trans hf
  · split at hf
    case isFalse => cases hseq.symm.trans hf
    case isTrue =>
      split at hf
      · next i hi =>
        obtain ⟨op, hop⟩ := portInstr_instrOp hi
        obtain ⟨run, hexec⟩ := exec_eq_portCommand hop _
        exact portCommand_ne_fault _ _ _ f (hexec.symm.trans hf)
      · cases hf

/-- A DAC-enable write does not end a MORSE command with OK. -/
theorem State.dacWrite_not_endsOk (s : State) (r : Request) {next : Phase} (hnext : next ≠ .idle)
    (hidle : (s.dacWrite r next).phase = .idle) : (s.dacWrite r next).result ≠ .ok := by
  rcases s.dacWrite_cases r next with ⟨-, he⟩ | ⟨-, he⟩ <;> rw [he] at hidle ⊢
  · exact absurd hidle hnext
  · exact nofun

/-- The precheck does not end a MORSE command with OK. -/
theorem State.runPrecheck_not_endsOk (s : State) (hidle : s.runPrecheck.phase = .idle) :
    s.runPrecheck.result ≠ .ok := by
  rcases s.runPrecheck_cases with ⟨-, he⟩ | ⟨-, -, he⟩ | ⟨-, -, -, he⟩ | ⟨-, -, -, he⟩ <;>
    rw [he] at hidle ⊢
  case inr.inr.inr => cases hidle
  all_goals exact nofun

/-- The sequencer ends a MORSE command with OK at the end of the text, with no gap owed (R176). -/
theorem sequencerStep_endsOk {s t : State} (h : sequencerStep s = .next t) (hactive : s.phase ≠ .idle)
    (hidle : t.phase = .idle) (hok : t.result = .ok) :
    s.pos = s.txt.length ∧ s.pendGap = false ∧ t = s.endWith .ok := by
  rcases sequencerStep_next_cases h with ⟨hp, -⟩ | ⟨-, rfl⟩ | ⟨-, -, -, -, rfl⟩ | ⟨-, -, hend, hgap, rfl⟩ |
    ⟨hp, -, -, rfl⟩ | ⟨-, -, -, rfl⟩ | ⟨-, -, -, rfl⟩ | ⟨-, -, -, rfl⟩ | ⟨hp, -, rfl⟩ | ⟨-, rfl⟩ |
    ⟨-, rfl⟩ | ⟨-, c, code, -, -, rfl⟩ | ⟨-, rfl⟩ | ⟨-, x, -, rfl⟩ | ⟨-, rfl⟩ | ⟨-, rfl⟩
  · exact absurd hp hactive
  · exact absurd hok (s.runPrecheck_not_endsOk hidle)
  · cases hidle
  · exact ⟨hend, hgap, rfl⟩
  · exact absurd hidle hactive
  · cases hidle
  · cases hidle
  · cases hidle
  · exact absurd hidle hactive
  · cases hidle
  · cases hidle
  · cases hidle
  · exact absurd hok (s.dacWrite_not_endsOk _ (by decide) hidle)
  · cases hidle
  · exact absurd hok (s.dacWrite_not_endsOk _ (by decide) hidle)
  · rcases s.runSymGap_cases with ⟨-, he⟩ | ⟨-, he⟩ <;> rw [he] at hidle <;> cases hidle

/-- Settles O56: the step is the sequencer's, and only SEQ_END ends OK. -/
theorem endStateAfterOk : Obligations.EndStateAfterOk := by
  intro s t h hactive hstep hidle hok
  obtain ⟨hend, hgap, rfl⟩ := sequencerStep_endsOk (h.step_of_active hactive hstep) hactive hidle hok
  exact ⟨rfl, hgap, hend⟩

end Sys2Proof.Machine
end

section
/-! The big-step procedure of a MORSE command (45_morse.md R190): its cases, its pulses and gaps (R191 to
R194), and where its runs stop (R195 to R197). -/

namespace Sys2Proof.Machine

/-! ## The symbols of a character (45_morse.md R184 to R188, R191) -/

section
variable {s : State} {x : Symbol} {xs : List Symbol}

theorem morseSymbols_cons_of_good (hon : s.good (dacOnRequest s.params) = true)
    (hoff : (s.held x).good (dacOffRequest s.params) = true) :
    morseSymbols (x :: xs) s = morseSymbols xs (s.pulse x) := by
  simp only [morseSymbols, if_pos hon, State.tryCall_of_good hon]
  rw [← State.held, if_pos hoff, State.tryCall_of_good hoff, ← State.pulse]

theorem morseSymbols_cons_of_offFailed (hon : s.good (dacOnRequest s.params) = true)
    (hoff : (s.held x).good (dacOffRequest s.params) = false) :
    morseSymbols (x :: xs) s = ((s.held x).tryCall .gpioSet (dacOffRequest s.params), false) := by
  simp only [morseSymbols, if_pos hon, State.tryCall_of_good hon]
  rw [← State.held, if_neg (by simp [hoff])]

theorem morseSymbols_cons_of_onFailed (hon : s.good (dacOnRequest s.params) = false) :
    morseSymbols (x :: xs) s = (s.tryCall .gpioSet (dacOnRequest s.params), false) := by
  simp [morseSymbols, hon]

/-- The three ways a symbol can go: DAC_ON fails, DAC_OFF fails, or the pulse is whole. -/
theorem morseSymbols_cons_cases (x : Symbol) (xs : List Symbol) (s : State) :
    (s.good (dacOnRequest s.params) = false ∧
      morseSymbols (x :: xs) s = (s.tryCall .gpioSet (dacOnRequest s.params), false)) ∨
    (s.good (dacOnRequest s.params) = true ∧ (s.held x).good (dacOffRequest s.params) = false ∧
      morseSymbols (x :: xs) s = ((s.held x).tryCall .gpioSet (dacOffRequest s.params), false)) ∨
    (s.good (dacOnRequest s.params) = true ∧ (s.held x).good (dacOffRequest s.params) = true ∧
      morseSymbols (x :: xs) s = morseSymbols xs (s.pulse x)) := by
  cases hon : s.good (dacOnRequest s.params) with
  | false => exact .inl ⟨rfl, morseSymbols_cons_of_onFailed hon⟩
  | true =>
    cases hoff : (s.held x).good (dacOffRequest s.params) with
    | false => exact .inr (.inl ⟨rfl, rfl, morseSymbols_cons_of_offFailed hon hoff⟩)
    | true => exact .inr (.inr ⟨rfl, rfl, morseSymbols_cons_of_good hon hoff⟩)

/-- The parameters are never written. -/
@[simp] theorem morseSymbols_params (code : List Symbol) (s : State) :
    (morseSymbols code s).1.params = s.params := by
  induction code generalizing s with
  | nil => rfl
  | cons x xs ih =>
    rcases morseSymbols_cons_cases x xs s with ⟨-, he⟩ | ⟨-, -, he⟩ | ⟨-, -, he⟩ <;> rw [he]
    · exact State.tryCall_params ..
    · exact (State.tryCall_params ..).trans (s.held_params x)
    · exact (ih _).trans (s.pulse_params x)

/-- A symbol whose writes succeed is a pulse. -/
theorem morseSymbols_cons_ok (h : (morseSymbols (x :: xs) s).2 = true) :
    s.good (dacOnRequest s.params) = true ∧ (s.held x).good (dacOffRequest s.params) = true ∧
      morseSymbols (x :: xs) s = morseSymbols xs (s.pulse x) := by
  rcases morseSymbols_cons_cases x xs s with ⟨-, he⟩ | ⟨-, -, he⟩ | hgood
  · rw [he] at h; cases h
  · rw [he] at h; cases h
  · exact hgood

/-- The events of a character whose writes all succeed are its pulses. -/
theorem morseSymbols_trace {code : List Symbol} (h : (morseSymbols code s).2 = true) :
    (morseSymbols code s).1.trace = s.trace ++ code.flatMap (pulseEvents s.params) := by
  induction code generalizing s with
  | nil => simp [morseSymbols]
  | cons x xs ih =>
    obtain ⟨hon, hoff, he⟩ := morseSymbols_cons_ok h
    rw [he] at h ⊢
    rw [ih h, State.pulse_trace hon hoff, State.pulse_params, List.flatMap_cons, List.append_assoc]

/-- A character whose writes all succeed leaves an inactive DAC-enable line inactive. -/
theorem morseSymbols_inactive {code : List Symbol} (h : (morseSymbols code s).2 = true)
    (hs : dacLineActive s.params s.dev = false) :
    dacLineActive s.params (morseSymbols code s).1.dev = false := by
  induction code generalizing s with
  | nil => exact hs
  | cons x xs ih =>
    obtain ⟨hon, hoff, he⟩ := morseSymbols_cons_ok h
    rw [he] at h ⊢
    rw [← s.pulse_params x]
    refine ih h ?_
    rw [State.pulse_params, dacLineActive, dacEnabled, State.pulse_level hoff]
    cases s.params.dacEnActive <;> rfl

end

/-- Settles O50: the pulses of `morseSymbols_trace`, with the events of each written out. -/
theorem pulseLaw : Obligations.PulseLaw := by
  intro code s h active on off
  rw [morseSymbols_trace h]
  refine congrArg (fun f => s.trace ++ code.flatMap f) (funext fun x => ?_)
  cases x <;> rfl

/-! ## The text, byte by byte (45_morse.md R176 to R183, R190) -/

/-- The owed gap of a character, if there is one (45_morse.md R180). -/
def State.payGap (s : State) (pend : Bool) : State := if pend then s.emit (.delay charGapUnits) else s

/-- The word gap: the echo, then the delay (45_morse.md R181). -/
def State.wordGap (s : State) : State := (s.emit (.echo 0x20#8)).emit (.delay wordGapUnits)

/-- What comes before the symbols of byte `c` (45_morse.md R180, R183). -/
def State.charHead (s : State) (pend : Bool) (c : Byte) : State := (s.payGap pend).emit (.echo c)

@[simp] theorem State.payGap_params (s : State) (pend : Bool) : (s.payGap pend).params = s.params := by
  cases pend <;> rfl

@[simp] theorem State.payGap_dev (s : State) (pend : Bool) : (s.payGap pend).dev = s.dev := by
  cases pend <;> rfl

@[simp] theorem State.charHead_params (s : State) (pend : Bool) (c : Byte) :
    (s.charHead pend c).params = s.params := by
  simp [State.charHead]

@[simp] theorem State.charHead_dev (s : State) (pend : Bool) (c : Byte) :
    (s.charHead pend c).dev = s.dev := by
  simp [State.charHead]

@[simp] theorem State.wordGap_params (s : State) : s.wordGap.params = s.params := rfl

@[simp] theorem State.wordGap_dev (s : State) : s.wordGap.dev = s.dev := rfl

section
variable {s : State} {c : Byte} {cs : List Byte} {lastWS pend : Bool}

theorem morseText_nil : morseText [] lastWS pend s = (s.payGap pend).endWith .ok := rfl

theorem morseText_ws_again (h : classOf s.params c = .ws) :
    morseText (c :: cs) true pend s = morseText cs true pend s := by
  simp [morseText, classOf_eq_ws_iff.1 h]

theorem morseText_ws_first (h : classOf s.params c = .ws) :
    morseText (c :: cs) false pend s = morseText cs true false s.wordGap := by
  simp [morseText, classOf_eq_ws_iff.1 h, State.wordGap]

theorem morseText_unmapped (h : classOf s.params c = .unmapped) :
    morseText (c :: cs) lastWS pend s = morseText cs lastWS pend s := by
  obtain ⟨hws, hcode⟩ := classOf_eq_unmapped_iff.1 h
  simp [morseText, hws, hcode]

theorem morseText_mapped {code : List Symbol} (h : classOf s.params c = .mapped)
    (hcode : tableCode s.params (fold c) = some code) :
    morseText (c :: cs) lastWS pend s =
      if (morseSymbols code (s.charHead pend c)).2 then
        morseText cs false true (morseSymbols code (s.charHead pend c)).1
      else (morseSymbols code (s.charHead pend c)).1.endWith .fail := by
  simp only [morseText, isWs_of_classOf_mapped h, hcode, Bool.false_eq_true, if_false]
  rfl

end

/-- The runs of the loop over the text, case by case: `MorseTextRuns text lastWS pend s t` says that from
`s`, with these two flags, the loop ends in `t`. -/
inductive MorseTextRuns : List Byte → Bool → Bool → State → State → Prop where
  /-- The end of the text (45_morse.md R176). -/
  | done (lastWS pend : Bool) (s : State) :
      MorseTextRuns [] lastWS pend s ((s.payGap pend).endWith .ok)
  /-- A WS byte with no mapped byte since the last one (45_morse.md R177). -/
  | wsAgain {c : Byte} {cs : List Byte} {pend : Bool} {s t : State} (hc : classOf s.params c = .ws)
      (h : MorseTextRuns cs true pend s t) : MorseTextRuns (c :: cs) true pend s t
  /-- A word gap (45_morse.md R181). -/
  | wsFirst {c : Byte} {cs : List Byte} {pend : Bool} {s t : State} (hc : classOf s.params c = .ws)
      (h : MorseTextRuns cs true false s.wordGap t) : MorseTextRuns (c :: cs) false pend s t
  /-- An UNMAPPED byte (45_morse.md R178). -/
  | unmapped {c : Byte} {cs : List Byte} {lastWS pend : Bool} {s t : State}
      (hc : classOf s.params c = .unmapped) (h : MorseTextRuns cs lastWS pend s t) :
      MorseTextRuns (c :: cs) lastWS pend s t
  /-- A character whose writes all succeed (45_morse.md R183 to R187). -/
  | charDone {c : Byte} {cs : List Byte} {code : List Symbol} {lastWS pend : Bool} {s t : State}
      (hc : classOf s.params c = .mapped) (hcode : tableCode s.params (fold c) = some code)
      (hok : (morseSymbols code (s.charHead pend c)).2 = true)
      (h : MorseTextRuns cs false true (morseSymbols code (s.charHead pend c)).1 t) :
      MorseTextRuns (c :: cs) lastWS pend s t
  /-- A character with a write that fails (45_morse.md R188). -/
  | charFailed {c : Byte} {cs : List Byte} {code : List Symbol} {lastWS pend : Bool} {s : State}
      (hc : classOf s.params c = .mapped) (hcode : tableCode s.params (fold c) = some code)
      (hok : (morseSymbols code (s.charHead pend c)).2 = false) :
      MorseTextRuns (c :: cs) lastWS pend s ((morseSymbols code (s.charHead pend c)).1.endWith .fail)

/-- The loop runs by these cases. -/
theorem morseText_runs (text : List Byte) (lastWS pend : Bool) (s : State) :
    MorseTextRuns text lastWS pend s (morseText text lastWS pend s) := by
  induction text generalizing lastWS pend s with
  | nil => rw [morseText_nil]; exact .done lastWS pend s
  | cons c cs ih =>
    cases hc : classOf s.params c with
    | ws =>
      cases lastWS with
      | true => rw [morseText_ws_again hc]; exact .wsAgain hc (ih ..)
      | false => rw [morseText_ws_first hc]; exact .wsFirst hc (ih ..)
    | unmapped => rw [morseText_unmapped hc]; exact .unmapped hc (ih ..)
    | mapped =>
      obtain ⟨-, code, hcode⟩ := classOf_eq_mapped_iff.1 hc
      rw [morseText_mapped hc hcode]
      cases hok : (morseSymbols code (s.charHead pend c)).2 with
      | true => exact .charDone hc hcode hok (ih ..)
      | false => exact .charFailed hc hcode hok

/-- A run of the loop ends in IDLE, not busy. -/
theorem MorseTextRuns.ends {text : List Byte} {lastWS pend : Bool} {s t : State}
    (h : MorseTextRuns text lastWS pend s t) : t.phase = .idle ∧ t.busy = false := by
  induction h with
  | done | charFailed => exact ⟨rfl, rfl⟩
  | wsAgain _ _ ih | wsFirst _ _ ih | unmapped _ _ ih | charDone _ _ _ _ ih => exact ih

/-! ## The precheck (45_morse.md R171) -/

/-- How the precheck ends the command, if it does. -/
def State.verdict (s : State) : Option Result :=
  if s.good gpioGetRequest then
    if genRunning s.params (s.readBack 0x20#8) then
      if dacEnabled s.params (s.readBack 0x20#8) then some .precondDacOn else none
    else some .precondGenOff
  else some .fail

section
variable {s : State} {res : Result}

theorem State.runPrecheck_of_verdict (h : s.verdict = some res) :
    s.runPrecheck = (s.tryCall .gpioGet gpioGetRequest).endWith res := by
  unfold State.verdict at h
  split_ifs at h <;> cases h <;> simp [State.runPrecheck, *]

theorem State.runPrecheck_of_pass (h : s.verdict = none) :
    s.runPrecheck = (s.tryCall .gpioGet gpioGetRequest).toPhase .fetch := by
  unfold State.verdict at h
  split_ifs at h
  simp [State.runPrecheck, *]

theorem morseRun_of_verdict (h : s.verdict = some res) (text : List Byte) :
    morseRun text s = (s.tryCall .gpioGet gpioGetRequest).endWith res := by
  unfold State.verdict at h
  split_ifs at h <;> cases h <;> simp [morseRun, *]

theorem morseRun_of_pass (h : s.verdict = none) (text : List Byte) :
    morseRun text s = morseText text true false (s.tryCall .gpioGet gpioGetRequest) := by
  unfold State.verdict at h
  split_ifs at h
  simp [morseRun, *]

/-- FAIL is the verdict on a read that failed, and OK is none. -/
theorem State.verdict_eq_some (h : s.verdict = some res) :
    (res = .fail ↔ s.good gpioGetRequest = false) ∧ res ≠ .ok := by
  unfold State.verdict at h
  split_ifs at h <;> cases h <;> simp [*]

theorem State.good_of_verdict_none (h : s.verdict = none) : s.good gpioGetRequest = true := by
  unfold State.verdict at h
  split_ifs at h
  assumption

/-- The precheck lets the command go on only where the DAC-enable line is inactive: the read gives the
DAC_EN_PIN level of the latch (20_memory.md R69; log 14). -/
theorem State.inactive_of_verdict_none (h : s.verdict = none) : dacLineActive s.params s.dev = false := by
  obtain ⟨draw, hdata⟩ := State.readBack_of_good (State.good_of_verdict_none h) 0x20#8
  unfold State.verdict at h
  split_ifs at h with _ _ hdac
  rwa [Bool.not_eq_true, dacEnabled, hdata, pinLevel_readData_gpio] at hdac

/-- The GPIO read changes no device state (42_gpio.md R116). -/
theorem State.tryCall_gpioGet_dev (s : State) : (s.tryCall .gpioGet gpioGetRequest).dev = s.dev := by
  rw [State.tryCall_dev, State.issue_dev, deviceAfter_gpioGet]

end

/-! ## What R193, R194 and R197 say -/

/-- A run of bytes that are not mapped, before any mapped byte or after whitespace, is passed over. -/
theorem morseText_run_again {s : State} {run : List Byte} (h : ∀ b ∈ run, classOf s.params b ≠ .mapped)
    (rest : List Byte) (pend : Bool) : morseText (run ++ rest) true pend s = morseText rest true pend s := by
  induction run with
  | nil => rfl
  | cons b bs ih =>
    obtain ⟨hb, hbs⟩ := List.forall_mem_cons.1 h
    rw [List.cons_append]
    cases hc : classOf s.params b with
    | ws => rw [morseText_ws_again hc, ih hbs]
    | mapped => exact absurd hc hb
    | unmapped => rw [morseText_unmapped hc, ih hbs]

/-- A run of unmapped bytes is passed over. -/
theorem morseText_run_unmapped {s : State} {run : List Byte}
    (h : ∀ b ∈ run, classOf s.params b = .unmapped) (rest : List Byte) (lastWS pend : Bool) :
    morseText (run ++ rest) lastWS pend s = morseText rest lastWS pend s := by
  induction run with
  | nil => rfl
  | cons b bs ih =>
    obtain ⟨hb, hbs⟩ := List.forall_mem_cons.1 h
    rw [List.cons_append, morseText_unmapped hb, ih hbs]

/-- After a mapped byte a run with whitespace in it is one word gap. -/
theorem morseText_run_first {s : State} {run : List Byte} (h : ∀ b ∈ run, classOf s.params b ≠ .mapped)
    (hws : ∃ b ∈ run, classOf s.params b = .ws) (rest : List Byte) (pend : Bool) :
    morseText (run ++ rest) false pend s = morseText rest true false s.wordGap := by
  induction run with
  | nil => obtain ⟨b, hb, -⟩ := hws; cases hb
  | cons b bs ih =>
    obtain ⟨hb, hbs⟩ := List.forall_mem_cons.1 h
    rw [List.cons_append]
    cases hc : classOf s.params b with
    | ws => rw [morseText_ws_first hc, morseText_run_again (s := s.wordGap) hbs]
    | mapped => exact absurd hc hb
    | unmapped =>
      have hws' : ∃ b ∈ bs, classOf s.params b = .ws := by simpa [hc] using hws
      rw [morseText_unmapped hc, ih hbs hws']

/-- A run of bytes that are not mapped, at the start of the message, is passed over. -/
theorem morseRun_run {s : State} {run : List Byte} (h : ∀ b ∈ run, classOf s.params b ≠ .mapped)
    (rest : List Byte) : morseRun (run ++ rest) s = morseRun rest s := by
  cases hv : s.verdict with
  | some res => rw [morseRun_of_verdict hv, morseRun_of_verdict hv]
  | none => rw [morseRun_of_pass hv, morseRun_of_pass hv, morseText_run_again (by simpa using h)]

/-- Settles O52: the runs passed over, and the one word gap. -/
theorem collapseLaw : Obligations.CollapseLaw := by
  intro s run rest h
  refine ⟨morseRun_run h rest, morseText_run_again h rest false,
    fun pend hws => morseText_run_first h hws rest pend, fun lastWS pend hnws => ?_⟩
  refine morseText_run_unmapped (fun b hb => ?_) rest lastWS pend
  cases hc : classOf s.params b with
  | ws => exact absurd hc (hnws b hb)
  | mapped => exact absurd hc (h b hb)
  | unmapped => rfl

/-- Settles O53: the whole message is one leading run. -/
theorem messageWithoutMappedBytesIsSilent : Obligations.MessageWithoutMappedBytesIsSilent := by
  intro s text h
  have hempty : morseRun text s = morseRun [] s := by simpa using morseRun_run h []
  have hends : ∃ res, morseRun [] s = (s.tryCall .gpioGet gpioGetRequest).endWith res := by
    cases hv : s.verdict with
    | some res => exact ⟨res, morseRun_of_verdict hv []⟩
    | none => exact ⟨.ok, morseRun_of_pass hv []⟩
  obtain ⟨res, he⟩ := hends
  rw [hempty, he]
  exact ⟨rfl, State.tryCall_trace .., s.tryCall_gpioGet_dev⟩

/-- Deleting the unmapped bytes leaves the run of the loop. -/
theorem MorseTextRuns.filter {p : Params} {text : List Byte} {lastWS pend : Bool} {s t : State}
    (h : MorseTextRuns text lastWS pend s t) (hp : s.params = p) :
    morseText (text.filter fun c => classOf p c ≠ .unmapped) lastWS pend s = t := by
  induction h with
  | done => rfl
  | wsAgain hc _ ih =>
    rw [List.filter_cons_of_pos (by simp [← hp, hc]), morseText_ws_again hc]
    exact ih hp
  | wsFirst hc _ ih =>
    rw [List.filter_cons_of_pos (by simp [← hp, hc]), morseText_ws_first hc]
    exact ih hp
  | unmapped hc _ ih =>
    rw [List.filter_cons_of_neg (by simp [← hp, hc])]
    exact ih hp
  | charDone hc hcode hok _ ih =>
    rw [List.filter_cons_of_pos (by simp [← hp, hc]), morseText_mapped hc hcode, if_pos hok]
    exact ih (by simpa using hp)
  | charFailed hc hcode hok =>
    rw [List.filter_cons_of_pos (by simp [← hp, hc]), morseText_mapped hc hcode, if_neg (by simp [hok])]

/-- Settles O49: after the precheck the loop runs the same. -/
theorem unmappedBytesAreTransparent : Obligations.UnmappedBytesAreTransparent := by
  intro s text
  cases hv : s.verdict with
  | some res => rw [morseRun_of_verdict hv, morseRun_of_verdict hv]
  | none =>
    rw [morseRun_of_pass hv, morseRun_of_pass hv]
    exact (morseText_runs text ..).filter (State.tryCall_params ..)

/-- A loop that ends OK leaves an inactive DAC-enable line inactive. -/
theorem MorseTextRuns.inactive {text : List Byte} {lastWS pend : Bool} {s t : State}
    (h : MorseTextRuns text lastWS pend s t) (hs : dacLineActive s.params s.dev = false)
    (hok : t.result = .ok) : dacLineActive s.params t.dev = false := by
  induction h with
  | done => simpa using hs
  | wsAgain _ _ ih | wsFirst _ _ ih | unmapped _ _ ih => exact ih hs hok
  | charDone _ _ hgood _ ih =>
    have hafter := morseSymbols_inactive hgood (by simpa using hs)
    simp only [morseSymbols_params, State.charHead_params] at ih hafter
    exact ih hafter hok
  | charFailed => cases hok

/-- Settles O55: the line is inactive at the precheck, and the loop leaves it so. -/
theorem morseOkLeavesTheDacInactive : Obligations.MorseOkLeavesTheDacInactive := by
  intro s text hok
  cases hv : s.verdict with
  | some res =>
    rw [morseRun_of_verdict hv] at hok
    exact absurd hok (State.verdict_eq_some hv).2
  | none =>
    rw [morseRun_of_pass hv] at hok ⊢
    have hs : dacLineActive (s.tryCall .gpioGet gpioGetRequest).params
        (s.tryCall .gpioGet gpioGetRequest).dev = false := by
      rw [State.tryCall_params, State.issue_params, State.tryCall_gpioGet_dev]
      exact State.inactive_of_verdict_none hv
    simpa using (morseText_runs text ..).inactive hs hok

/-! ## What follows a character (45_morse.md R191, R192) -/

/-- The events of a code end with its last DAC_OFF and one unit. -/
theorem flatMap_pulseEvents {code : List Symbol} (h : code ≠ []) (p : Params) :
    ∃ es, code.flatMap (pulseEvents p) =
      es ++ [.xfer (dacOffRequest p) (.ok 4 []), .delay intraGapUnits] := by
  obtain ⟨init, x, rfl⟩ := (List.eq_nil_or_concat' code).resolve_left h
  exact ⟨init.flatMap (pulseEvents p) ++ [.xfer (dacOnRequest p) (.ok 4 []), .delay (holdUnits x)],
    by simp [pulseEvents]⟩

/-- Settles O51: the pulses of the code, then the owed gap or the word gap. -/
theorem gapLaw : Obligations.GapLaw := by
  intro s c code lastWS pend hc hcode start after charGap wordGap off hok
  have hparams : after.params = s.params :=
    (morseSymbols_params code start).trans (s.charHead_params pend c)
  have htext (rest : List Byte) :
      morseText (c :: rest) lastWS pend s = morseText rest false true after :=
    (morseText_mapped hc hcode).trans (if_pos hok)
  refine ⟨?events, fun skipped hskip => ⟨?atEnd, fun d rest hd => ?mapped⟩, fun run rest hrun hws => ?ws⟩
  case events =>
    obtain ⟨es, hes⟩ := flatMap_pulseEvents (tableCode_spec hcode).1 s.params
    have htrace : after.trace = start.trace ++ (es ++ [.xfer off (.ok 4 []), .delay 1]) := by
      rw [morseSymbols_trace hok, show start.params = s.params from s.charHead_params pend c, hes]
      rfl
    refine ⟨start.trace ++ es, [.delay 1, .delay 2], [.delay 1, .echo 0x20#8, .delay 4], ?_, rfl, ?_, rfl,
      rfl, rfl⟩ <;> simp [charGap, wordGap, htrace]
  case atEnd =>
    rw [htext, ← List.append_nil skipped, morseText_run_unmapped (by rwa [hparams])]
    rfl
  case mapped =>
    rw [← hparams] at hd
    obtain ⟨-, code', hcode'⟩ := classOf_eq_mapped_iff.1 hd
    rw [List.cons_append, htext, morseText_run_unmapped (by rwa [hparams]), morseText_mapped hd hcode',
      morseText_mapped (s := charGap) hd hcode']
    rfl
  case ws =>
    rw [← hparams] at hrun hws
    rw [List.cons_append, htext, morseText_run_first hrun hws]
    rfl

end Sys2Proof.Machine
end

section
/-! What a MORSE command does at the transfer port (45_morse.md R195, R196): its events, counted, and its end
at the first call that fails. -/

namespace Sys2Proof.Machine

/-! ## Counting events -/

@[simp] theorem requestsOf_append (es fs : List Event) :
    requestsOf (es ++ fs) = requestsOf es ++ requestsOf fs := by
  induction es with
  | nil => rfl
  | cons e es ih => cases e <;> simp [requestsOf, ih]

@[simp] theorem echoesOf_append (es fs : List Event) : echoesOf (es ++ fs) = echoesOf es ++ echoesOf fs := by
  induction es with
  | nil => rfl
  | cons e es ih => cases e <;> simp [echoesOf, ih]

@[simp] theorem delaysOf_append (es fs : List Event) : delaysOf (es ++ fs) = delaysOf es + delaysOf fs := by
  induction es with
  | nil => simp [delaysOf]
  | cons e es ih => cases e <;> simp [delaysOf, ih, Nat.add_assoc]

/-- At most so many transfers, delays and echoes. -/
structure AtMost (es : List Event) (xfers delays echoes : Nat) : Prop where
  xfers : (requestsOf es).length ≤ xfers
  delays : delaysOf es ≤ delays
  echoes : (echoesOf es).length ≤ echoes

theorem AtMost.append {es fs : List Event} {a b c a' b' c' : Nat} (h : AtMost es a b c)
    (h' : AtMost fs a' b' c') : AtMost (es ++ fs) (a + a') (b + b') (c + c') where
  xfers := by simpa using Nat.add_le_add h.xfers h'.xfers
  delays := by simpa using Nat.add_le_add h.delays h'.delays
  echoes := by simpa using Nat.add_le_add h.echoes h'.echoes

theorem AtMost.mono {es : List Event} {a b c a' b' c' : Nat} (h : AtMost es a b c) (ha : a ≤ a')
    (hb : b ≤ b') (hc : c ≤ c') : AtMost es a' b' c' :=
  ⟨h.xfers.trans ha, h.delays.trans hb, h.echoes.trans hc⟩

/-! ## Runs without a failed call, and runs that stop at one (45_morse.md R195) -/

/-- From `s` to `t` with the events `es`, of which every call succeeds. -/
structure RanGood (s t : State) (es : List Event) : Prop where
  params : t.params = s.params
  acc : t.acc = s.acc
  trace : t.trace = s.trace ++ es
  calls : t.calls = s.calls + (requestsOf es).length
  good : ∀ r rep, .xfer r rep ∈ es → rep.good r = true

/-- The calls of a MORSE command, with the mnemonic each records (60_exceptions.md R201). -/
def MorseCall (p : Params) (op : Op) (r : Request) : Prop :=
  r = gpioGetRequest ∧ op = .gpioGet ∨ (∃ level, r = gpioSetRequest p.dacEnPin level) ∧ op = .gpioSet

/-- From `s` a MORSE command ends in `t` with the events `es`: every call succeeded, or the last one failed
and the result is FAIL (45_morse.md R188). -/
inductive MorseEnds (s : State) (es : List Event) (t : State) : Prop where
  | good (u : State) (res : Result) (hres : res ≠ .fail) (hran : RanGood s u es) (ht : t = u.endWith res)
  | failed (u : State) (init : List Event) (op : Op) (r : Request) (hran : RanGood s u init)
      (hes : es = init ++ [.xfer r (u.reply r)]) (hcall : MorseCall s.params op r)
      (hbad : u.good r = false) (ht : t = (u.tryCall op r).endWith .fail)

section
variable {s t u : State} {es fs : List Event}

theorem RanGood.refl (s : State) : RanGood s s [] := ⟨rfl, rfl, by simp, rfl, by simp⟩

theorem RanGood.trans (h : RanGood s u es) (h' : RanGood u t fs) : RanGood s t (es ++ fs) where
  params := h'.params.trans h.params
  acc := h'.acc.trans h.acc
  trace := by rw [h'.trace, h.trace, List.append_assoc]
  calls := by simp [h'.calls, h.calls, Nat.add_assoc]
  good r rep hmem := (List.mem_append.1 hmem).elim (h.good r rep) (h'.good r rep)

theorem RanGood.delay (s : State) (n : Nat) : RanGood s (s.emit (.delay n)) [.delay n] :=
  ⟨rfl, rfl, rfl, rfl, by simp⟩

theorem RanGood.echo (s : State) (b : Byte) : RanGood s (s.emit (.echo b)) [.echo b] :=
  ⟨rfl, rfl, rfl, rfl, by simp⟩

theorem RanGood.issue {r : Request} (h : s.good r = true) :
    RanGood s (s.issue r) [.xfer r (s.reply r)] :=
  ⟨rfl, rfl, rfl, rfl, by rintro _ _ (_ | ⟨_, ⟨⟩⟩); exact h⟩

/-- Calls that succeed may come before any end. -/
theorem MorseEnds.prepend (h : RanGood s u es) (h' : MorseEnds u fs t) : MorseEnds s (es ++ fs) t := by
  cases h' with
  | good v res hres hran ht => exact .good v res hres (h.trans hran) ht
  | failed v init op r hran hes hcall hbad ht =>
    exact .failed v (es ++ init) op r (h.trans hran) (by rw [hes, List.append_assoc]) (h.params ▸ hcall)
      hbad ht

/-- A call that fails at once. -/
theorem MorseEnds.of_failed {op : Op} {r : Request} (hcall : MorseCall s.params op r)
    (hbad : s.good r = false) :
    MorseEnds s [.xfer r (s.reply r)] ((s.tryCall op r).endWith .fail) :=
  .failed s [] op r (.refl s) rfl hcall hbad rfl

/-! ## The parts of a message -/

theorem RanGood.held {x : Symbol} (hon : s.good (dacOnRequest s.params) = true) :
    RanGood s (s.held x) [.xfer (dacOnRequest s.params) (s.reply (dacOnRequest s.params)),
      .delay (holdUnits x)] :=
  (RanGood.issue hon).trans (.delay _ _)

theorem RanGood.pulse {x : Symbol} (hon : s.good (dacOnRequest s.params) = true)
    (hoff : (s.held x).good (dacOffRequest s.params) = true) :
    RanGood s (s.pulse x) (pulseEvents s.params x) where
  params := s.pulse_params x
  acc := s.pulse_acc x
  trace := State.pulse_trace hon hoff
  calls := s.pulse_calls x
  good r rep hmem := by
    simp only [pulseEvents, List.mem_cons, List.not_mem_nil, Event.xfer.injEq, reduceCtorEq, or_false,
      false_or] at hmem
    rcases hmem with ⟨rfl, rfl⟩ | ⟨rfl, rfl⟩ <;> rfl

theorem RanGood.payGap (s : State) (pend : Bool) :
    ∃ es, RanGood s (s.payGap pend) es ∧ AtMost es 0 pend.toNat 0 := by
  cases pend with
  | false => exact ⟨[], .refl s, by decide, by decide, by decide⟩
  | true => exact ⟨[.delay charGapUnits], .delay s _, by decide, by decide, by decide⟩

theorem RanGood.charHead (s : State) (pend : Bool) (c : Byte) :
    ∃ es, RanGood s (s.charHead pend c) es ∧ AtMost es 0 pend.toNat 1 := by
  obtain ⟨es, hran, hmost⟩ := RanGood.payGap s pend
  have hecho : AtMost [.echo c] 0 0 1 := ⟨Nat.le_refl 0, Nat.le_refl 0, Nat.le_refl 1⟩
  exact ⟨_, hran.trans (.echo _ c), hmost.append hecho⟩

theorem RanGood.wordGap (s : State) : RanGood s s.wordGap [.echo 0x20#8, .delay wordGapUnits] :=
  (RanGood.echo s _).trans (.delay _ _)

end

/-- The symbols of a character: two transfers and two delays for each, and every call succeeds or the
command ends at the one that fails. -/
theorem morseSymbols_ends (code : List Symbol) (s : State) :
    ∃ es, AtMost es (2 * code.length) (2 * code.length) 0 ∧
      (((morseSymbols code s).2 = true ∧ RanGood s (morseSymbols code s).1 es) ∨
       ((morseSymbols code s).2 = false ∧ MorseEnds s es ((morseSymbols code s).1.endWith .fail))) := by
  induction code generalizing s with
  | nil => exact ⟨[], ⟨Nat.le_refl 0, Nat.le_refl 0, Nat.le_refl 0⟩, .inl ⟨rfl, .refl s⟩⟩
  | cons x xs ih =>
    have hon : MorseCall s.params .gpioSet (dacOnRequest s.params) := .inr ⟨⟨_, rfl⟩, rfl⟩
    have hoff : MorseCall s.params .gpioSet (dacOffRequest s.params) := .inr ⟨⟨_, rfl⟩, rfl⟩
    rcases morseSymbols_cons_cases x xs s with ⟨hbad, he⟩ | ⟨hgood, hbad, he⟩ | ⟨hgood, hgood', he⟩ <;> rw [he]
    · have hmost (rep : Reply) : AtMost [.xfer (dacOnRequest s.params) rep] 1 0 0 :=
        ⟨Nat.le_refl 1, Nat.le_refl 0, Nat.le_refl 0⟩
      exact ⟨_, (hmost _).mono (by simp; omega) (Nat.zero_le _) (Nat.zero_le _),
        .inr ⟨rfl, .of_failed hon hbad⟩⟩
    · have hmost (rep rep' : Reply) : AtMost ([.xfer (dacOnRequest s.params) rep, .delay (holdUnits x)] ++
          [.xfer (dacOffRequest s.params) rep']) 2 1 0 := ⟨Nat.le_refl 2, Nat.le_refl 1, Nat.le_refl 0⟩
      exact ⟨_, (hmost _ _).mono (by simp) (by simp; omega) (Nat.zero_le _),
        .inr ⟨rfl, .prepend (.held hgood) (.of_failed (by rwa [s.held_params]) hbad)⟩⟩
    · obtain ⟨es, hmost, hends⟩ := ih (s.pulse x)
      have hpulse : AtMost (pulseEvents s.params x) 2 2 0 := ⟨Nat.le_refl 2, Nat.le_refl 2, Nat.le_refl 0⟩
      have hlen : 2 + 2 * xs.length = 2 * (x :: xs).length := by simp; omega
      refine ⟨pulseEvents s.params x ++ es, hlen ▸ hpulse.append hmost, ?_⟩
      exact hends.imp (fun h => ⟨h.1, (RanGood.pulse hgood hgood').trans h.2⟩)
        fun h => ⟨h.1, h.2.prepend (.pulse hgood hgood')⟩

/-- A character with what comes before it. -/
theorem char_ends (code : List Symbol) (s : State) (pend : Bool) (c : Byte) :
    ∃ es, AtMost es (2 * code.length) (pend.toNat + 2 * code.length) 1 ∧
      (((morseSymbols code (s.charHead pend c)).2 = true ∧
        RanGood s (morseSymbols code (s.charHead pend c)).1 es) ∨
       ((morseSymbols code (s.charHead pend c)).2 = false ∧
        MorseEnds s es ((morseSymbols code (s.charHead pend c)).1.endWith .fail))) := by
  obtain ⟨es, hran, hmost⟩ := RanGood.charHead s pend c
  obtain ⟨fs, hmost', hends⟩ := morseSymbols_ends code (s.charHead pend c)
  exact ⟨es ++ fs, (hmost.append hmost').mono (by simp) (by simp) (by simp),
    hends.imp (fun h => ⟨h.1, hran.trans h.2⟩) fun h => ⟨h.1, h.2.prepend hran⟩⟩

/-- The loop over the text: its events, counted, and its end. -/
theorem MorseTextRuns.ends_counted {p : Params} {text : List Byte} {lastWS pend : Bool} {s t : State}
    (h : MorseTextRuns text lastWS pend s t) (hp : s.params = p) :
    ∃ es, MorseEnds s es t ∧
      AtMost es (2 * symbolCount p text)
        (2 * symbolCount p text + mappedCount p text + wordGapCount p lastWS text + pend.toNat)
        text.length := by
  induction h with
  | done lastWS pend s =>
    obtain ⟨es, hran, hmost⟩ := RanGood.payGap s pend
    exact ⟨es, .good _ .ok (by decide) hran rfl, hmost.mono (by simp) (by simp) (by simp)⟩
  | wsAgain hc _ ih =>
    obtain ⟨es, hends, hmost⟩ := ih hp
    rw [hp] at hc
    refine ⟨es, hends, hmost.mono ?_ ?_ ?_⟩ <;> simp [symbolCount, mappedCount, wordGapCount, hc]
  | wsFirst hc _ ih =>
    obtain ⟨es, hends, hmost⟩ := ih hp
    rw [hp] at hc
    refine ⟨_, hends.prepend (.wordGap _), (AtMost.append (a := 0) (b := 1) (c := 1) ?_ hmost).mono ?_ ?_ ?_⟩
    · exact ⟨Nat.le_refl 0, Nat.le_refl 1, Nat.le_refl 1⟩
    all_goals simp [symbolCount, mappedCount, wordGapCount, hc, Nat.add_comm]
    omega
  | unmapped hc _ ih =>
    obtain ⟨es, hends, hmost⟩ := ih hp
    rw [hp] at hc
    refine ⟨es, hends, hmost.mono ?_ ?_ ?_⟩ <;> simp [symbolCount, mappedCount, wordGapCount, hc]
  | @charDone c _ code _ pend s _ hc hcode hok _ ih =>
    obtain ⟨es, hmost, ⟨-, hran⟩ | ⟨hbad, -⟩⟩ := char_ends code s pend c
    case inr => cases hok.symm.trans hbad
    obtain ⟨fs, hends, hmost'⟩ := ih (hran.params.trans hp)
    rw [hp] at hc hcode
    refine ⟨es ++ fs, hends.prepend hran, (hmost.append hmost').mono ?_ ?_ ?_⟩ <;>
      simp [symbolCount, mappedCount, wordGapCount, hc, hcode] <;> omega
  | @charFailed c _ code _ pend s hc hcode hok =>
    obtain ⟨es, hmost, ⟨hgood, -⟩ | ⟨-, hends⟩⟩ := char_ends code s pend c
    case inl => cases hok.symm.trans hgood
    rw [hp] at hc hcode
    refine ⟨es, hends, hmost.mono ?_ ?_ ?_⟩ <;> simp [symbolCount, mappedCount, wordGapCount, hc, hcode]
    omega

/-- A MORSE command: its events, counted, and its end. -/
theorem morseRun_ends (s : State) (text : List Byte) :
    ∃ es, MorseEnds s es (morseRun text s) ∧
      AtMost es (1 + 2 * symbolCount s.params text)
        (2 * symbolCount s.params text + mappedCount s.params text + wordGapCount s.params true text)
        text.length := by
  have hread (rep : Reply) : AtMost [.xfer gpioGetRequest rep] 1 0 0 :=
    ⟨Nat.le_refl 1, Nat.le_refl 0, Nat.le_refl 0⟩
  cases hv : s.verdict with
  | some res =>
    rw [morseRun_of_verdict hv]
    refine ⟨_, ?_, (hread (s.reply gpioGetRequest)).mono (by simp) (by simp) (by simp)⟩
    cases hg : s.good gpioGetRequest with
    | false =>
      rw [((State.verdict_eq_some hv).1).2 hg]
      exact .of_failed (.inl ⟨rfl, rfl⟩) hg
    | true =>
      rw [State.tryCall_of_good hg]
      have hres : res ≠ .fail := fun hf => by simp [((State.verdict_eq_some hv).1).1 hf] at hg
      exact .good _ res hres (.issue hg) rfl
  | none =>
    have hg : s.good gpioGetRequest = true := State.good_of_verdict_none hv
    rw [morseRun_of_pass hv, State.tryCall_of_good hg]
    obtain ⟨es, hends, hmost⟩ := (morseText_runs text true false (s.issue gpioGetRequest)).ends_counted rfl
    exact ⟨_, hends.prepend (.issue hg), ((hread _).append hmost).mono (by simp) (by simp) (by simp)⟩

/-- Settles O48: the counts of `morseRun_ends`; at either end the number of calls is that of requests. -/
theorem morseTransfersAndEchoesAreBounded : Obligations.MorseTransfersAndEchoesAreBounded := by
  intro s text
  obtain ⟨es, hends, hmost⟩ := morseRun_ends s text
  suffices h : (morseRun text s).trace = s.trace ++ es ∧
      (morseRun text s).calls = s.calls + (requestsOf es).length from
    ⟨es, h.1, hmost.xfers, hmost.delays, hmost.echoes, h.2⟩
  cases hends with
  | good u res hres hran ht => exact ht ▸ ⟨hran.trace, hran.calls⟩
  | failed u init op r hran hes hcall hbad ht =>
    rw [ht, hes]
    simp [hran.trace, hran.calls, requestsOf, Nat.add_assoc]

/-- Settles O54: the two ways a MORSE command ends. -/
theorem morseStopsAtItsFirstFailure : Obligations.MorseStopsAtItsFirstFailure := by
  intro s text
  obtain ⟨es, hends, -⟩ := morseRun_ends s text
  cases hends with
  | good u res hres hran ht => exact .inr (ht ▸ ⟨hres, hran.acc, es, hran.trace, hran.good⟩)
  | failed u init op r hran hes hcall hbad ht =>
    rw [State.tryCall_of_failed hbad] at ht
    refine .inl (ht ▸ ⟨rfl, init, r, u.reply r, op, Config.freeMsg (u.issue r).calls, ?_, hbad, hran.good,
      hcall, ?_⟩)
    · simp [hran.trace]
    · simp [State.raise, hran.acc]

end Sys2Proof.Machine
end

section
/-! The small steps of a MORSE command compute the big-step procedure (45_morse.md R190): the steps of the
sequencer simulate the loop over the text byte by byte, in everything but the sequencer's registers. -/

namespace Sys2Proof.Machine

/-! ## Runs of the block -/

/-- Some number of steps leads from `s` to `t`. -/
def Reaches (s t : State) : Prop := ∃ n, Sys2Proof.core.run n s = .next t

theorem Reaches.refl (s : State) : Reaches s s := ⟨0, rfl⟩

theorem Reaches.head {s u t : State} (hs : step s = .next u) (h : Reaches u t) : Reaches s t := by
  obtain ⟨n, hn⟩ := h
  exact ⟨n + 1, core_run_succ hs hn⟩

theorem Reaches.trans {s u t : State} (h : Reaches s u) (h' : Reaches u t) : Reaches s t := by
  obtain ⟨n, hn⟩ := h
  induction n generalizing s with
  | zero => cases hn; exact h'
  | succ n ih =>
    simp only [Host.Core.run] at hn
    split at hn
    · next v hv => exact .head hv (ih hn)
    · cases hn
    · cases hn

/-! ## What the big-step procedure speaks of -/

/-- The state with everything forgotten that is the sequencer's alone while a command runs: its registers,
the phase, `busy` and the result. -/
def State.bare (s : State) : State := (s.endWith .none).forgetSequencer

section
variable {s v : State} (h : v.bare = s.bare)
include h

theorem State.endWith_of_bare_eq (res : Result) :
    (v.endWith res).forgetSequencer = (s.endWith res).forgetSequencer :=
  congrArg (fun u => u.endWith res) h

theorem State.params_of_bare_eq : v.params = s.params := congrArg (fun u => u.params) h

theorem State.good_of_bare_eq (r : Request) : v.good r = s.good r := congrArg (fun u => u.good r) h

theorem State.verdict_of_bare_eq : v.verdict = s.verdict := congrArg (fun u => u.verdict) h

theorem State.emit_bare_eq (e : Event) : (v.emit e).bare = (s.emit e).bare := congrArg (fun u => u.emit e) h

theorem State.issue_bare_eq (r : Request) : (v.issue r).bare = (s.issue r).bare :=
  congrArg (fun u => u.issue r) h

theorem State.raise_bare_eq (op : Op) (req : ReqId) : (v.raise op req).bare = (s.raise op req).bare :=
  congrArg (fun u => u.raise op req) h

theorem State.tryCall_bare_eq (op : Op) (r : Request) : (v.tryCall op r).bare = (s.tryCall op r).bare := by
  cases hg : s.good r with
  | true =>
    rw [State.tryCall_of_good hg, State.tryCall_of_good ((State.good_of_bare_eq h r).trans hg)]
    exact State.issue_bare_eq h r
  | false =>
    rw [State.tryCall_of_failed hg, State.tryCall_of_failed ((State.good_of_bare_eq h r).trans hg)]
    exact State.raise_bare_eq (State.issue_bare_eq h r) op r.ident

theorem State.payGap_bare_eq (pend : Bool) : (v.payGap pend).bare = (s.payGap pend).bare := by
  cases pend with
  | false => exact h
  | true => exact State.emit_bare_eq h _

theorem State.charHead_bare_eq (pend : Bool) (c : Byte) :
    (v.charHead pend c).bare = (s.charHead pend c).bare :=
  State.emit_bare_eq (State.payGap_bare_eq h pend) _

theorem State.wordGap_bare_eq : v.wordGap.bare = s.wordGap.bare :=
  State.emit_bare_eq (State.emit_bare_eq h _) _

theorem State.held_bare_eq (x : Symbol) : (v.held x).bare = (s.held x).bare := by
  rw [State.held, State.params_of_bare_eq h]
  exact State.emit_bare_eq (State.issue_bare_eq h _) _

theorem State.pulse_bare_eq (x : Symbol) : (v.pulse x).bare = (s.pulse x).bare := by
  rw [State.pulse, State.params_of_bare_eq h]
  exact State.emit_bare_eq (State.issue_bare_eq (State.held_bare_eq h x) _) _

end

theorem State.nextSymbol_bare (s : State) : s.nextSymbol.bare = s.bare := by
  unfold State.nextSymbol
  split <;> rfl

/-! ## The sequencer's registers at a place in the text (10_state.md R23 to R27) -/

/-- In FETCH before `text`, with these two flags. -/
structure AtText (v : State) (text : List Byte) (lastWS pend : Bool) : Prop where
  phase : v.phase = .fetch
  waits : callerWaits v
  place : ∃ before, v.txt = before ++ text ∧ v.pos = before.length
  lastWS : v.lastWS = lastWS
  pend : v.pendGap = pend

/-- In SYM_ON before the symbols `syms` of a character that `rest` follows. -/
structure InChar (v : State) (rest : List Byte) (syms : List Symbol) : Prop where
  phase : v.phase = .symOn
  waits : callerWaits v
  place : ∃ before c, v.txt = before ++ c :: rest ∧ v.pos = before.length
  code : ∃ before, v.code = before ++ syms ∧ v.sym = before.length
  lastWS : v.lastWS = false

section
variable {v : State} {c : Byte} {text cs : List Byte} {lastWS pend : Bool}

theorem AtText.step_eq (h : AtText v text lastWS pend) {u : State} (hs : sequencerStep v = .next u) :
    step v = .next u :=
  step_active h.waits rfl (by simp [h.phase]) hs

theorem AtText.at_end (h : AtText v [] lastWS pend) : v.pos = v.txt.length := by
  obtain ⟨before, htxt, hpos⟩ := h.place
  simp [htxt, hpos]

theorem AtText.currentClass (h : AtText v (c :: cs) lastWS pend) {k : ByteClass}
    (hk : classOf v.params c = k) : v.currentClass = some k := by
  obtain ⟨before, htxt, hpos⟩ := h.place
  exact (State.currentClass_eq (by simp [htxt, hpos])).trans (congrArg some hk)

/-- The place after one more byte. -/
theorem AtText.place_succ (h : AtText v (c :: cs) lastWS pend) :
    ∃ before, v.txt = before ++ cs ∧ v.pos + 1 = before.length := by
  obtain ⟨before, htxt, hpos⟩ := h.place
  exact ⟨before ++ [c], by simp [htxt], by simp [hpos]⟩

theorem AtText.skipByte (h : AtText v (c :: cs) lastWS pend) : AtText v.skipByte cs lastWS pend :=
  ⟨h.phase, h.waits, h.place_succ, h.lastWS, h.pend⟩

/-! ## The steps between two places (45_morse.md R179 to R187) -/

/-- An owed gap, where the dispatch goes to CHAR_GAP. -/
theorem AtText.payGap (h : AtText v text lastWS pend)
    (hdue : pend = true → sequencerStep v = .next (v.toPhase .charGap)) :
    ∃ w, Reaches v w ∧ AtText w text lastWS false ∧ w.bare = (v.payGap pend).bare := by
  cases pend with
  | false => exact ⟨v, .refl v, h, rfl⟩
  | true =>
    have hgap : step (v.toPhase .charGap) = .next (v.toPhase .charGap).runCharGap :=
      step_active h.waits rfl (by simp) (sequencerStep_charGap rfl)
    exact ⟨_, .head (h.step_eq (hdue rfl)) (.head hgap (.refl _)),
      ⟨rfl, h.waits, h.place, h.lastWS, rfl⟩, rfl⟩

/-- A word gap. -/
theorem AtText.wordGap (h : AtText v (c :: cs) false pend) (hc : classOf v.params c = .ws) :
    ∃ w, Reaches v w ∧ AtText w cs true false ∧ w.bare = v.wordGap.bare := by
  have hgap : step (v.toPhase .wordGap) = .next (v.toPhase .wordGap).runWordGap :=
    step_active h.waits rfl (by simp) (sequencerStep_wordGap rfl)
  exact ⟨_, .head (h.step_eq (sequencerStep_fetch_wordGap h.phase (h.currentClass hc) h.lastWS))
    (.head hgap (.refl _)), ⟨rfl, h.waits, h.place_succ, rfl, rfl⟩, rfl⟩

/-- The start of a character with no gap owed. -/
theorem AtText.charStart (h : AtText v (c :: cs) lastWS false) (hc : classOf v.params c = .mapped)
    {code : List Symbol} (hcode : tableCode v.params (fold c) = some code) :
    ∃ w, Reaches v w ∧ InChar w cs code ∧ w.bare = (v.emit (.echo c)).bare := by
  obtain ⟨before, htxt, hpos⟩ := h.place
  have hcurrent : v.current = some c := by simp [State.current, htxt, hpos]
  have hstart : step (v.toPhase .charStart) = .next ((v.toPhase .charStart).runCharStart c code) :=
    step_active h.waits rfl (by simp) (sequencerStep_charStart rfl hcurrent hcode)
  exact ⟨_, .head (h.step_eq (sequencerStep_fetch_charStart h.phase (h.currentClass hc) h.pend))
    (.head hstart (.refl _)), ⟨rfl, h.waits, ⟨before, c, htxt, hpos⟩, ⟨[], rfl, rfl⟩, rfl⟩, rfl⟩

/-- From FETCH before a mapped byte to its first symbol. -/
theorem AtText.charHead (h : AtText v (c :: cs) lastWS pend) (hc : classOf v.params c = .mapped)
    {code : List Symbol} (hcode : tableCode v.params (fold c) = some code) :
    ∃ w, Reaches v w ∧ InChar w cs code ∧ w.bare = (v.charHead pend c).bare := by
  obtain ⟨u, hreach, hu, hbare⟩ := h.payGap fun hpend =>
    sequencerStep_fetch_charGap h.phase (h.currentClass hc) (h.pend.trans hpend)
  have hparams : u.params = v.params := (State.params_of_bare_eq hbare).trans (v.payGap_params pend)
  rw [← hparams] at hc hcode
  obtain ⟨w, hreach', hw, hbare'⟩ := hu.charStart hc hcode
  exact ⟨w, hreach.trans hreach', hw, hbare'.trans (State.emit_bare_eq hbare _)⟩

end

section
variable {v s : State} {rest : List Byte} {x : Symbol} {xs : List Symbol}

theorem InChar.current (h : InChar v rest (x :: xs)) : v.code[v.sym]? = some x := by
  obtain ⟨before, hcode, hsym⟩ := h.code
  simp [hcode, hsym]

theorem InChar.pulse {syms : List Symbol} (h : InChar v rest syms) (x : Symbol) :
    InChar (v.pulse x) rest syms where
  phase := by simpa using h.phase
  waits q tail hport := h.waits q tail (by simpa using hport)
  place := by simpa using h.place
  code := by simpa using h.code
  lastWS := by simpa using h.lastWS

/-- After a symbol that is not the last: the next one. -/
theorem InChar.nextSymbol {y : Symbol} (h : InChar v rest (x :: y :: xs)) :
    InChar v.nextSymbol rest (y :: xs) := by
  obtain ⟨before, hcode, hsym⟩ := h.code
  rw [State.nextSymbol, if_pos (by simp [hcode, hsym])]
  exact ⟨rfl, h.waits, h.place, ⟨before ++ [x], by simp [hcode], by simp [hsym]⟩, h.lastWS⟩

/-- After the last symbol: FETCH before the bytes that follow, with a gap owed. -/
theorem InChar.nextSymbol_last (h : InChar v rest [x]) : AtText v.nextSymbol rest false true := by
  obtain ⟨before, hcode, hsym⟩ := h.code
  obtain ⟨bytes, c, htxt, hpos⟩ := h.place
  rw [State.nextSymbol, if_neg (by simp [hcode, hsym])]
  exact ⟨rfl, h.waits, ⟨bytes ++ [c], by simp [htxt], by simp [hpos]⟩, h.lastWS, rfl⟩

theorem InChar.reaches_runSymbol (h : InChar v rest (x :: xs)) : Reaches v (v.runSymbol x) := by
  obtain ⟨k, -, -, hrun, -⟩ := run_symbol h.phase h.waits h.current
  exact ⟨k, hrun⟩

/-- One symbol as an instruction and in the big-step procedure: both stop at the same failed write, or both
go on after a whole pulse. -/
theorem State.runSymbol_of_bare_eq (hbare : v.bare = s.bare) (x : Symbol) (xs : List Symbol) :
    ((morseSymbols (x :: xs) s).2 = false ∧ (v.runSymbol x).forgetSequencer =
      ((morseSymbols (x :: xs) s).1.endWith .fail).forgetSequencer) ∨
    (morseSymbols (x :: xs) s = morseSymbols xs (s.pulse x) ∧
      v.runSymbol x = (v.pulse x).nextSymbol) := by
  have hparams := State.params_of_bare_eq hbare
  have honEq : v.good (dacOnRequest v.params) = s.good (dacOnRequest s.params) := by
    rw [hparams, State.good_of_bare_eq hbare]
  have hoffEq : (v.held x).good (dacOffRequest v.params) = (s.held x).good (dacOffRequest s.params) := by
    rw [hparams, State.good_of_bare_eq (State.held_bare_eq hbare x)]
  rcases morseSymbols_cons_cases x xs s with ⟨hon, he⟩ | ⟨hon, hoff, he⟩ | ⟨hon, hoff, he⟩
  · rw [he, State.runSymbol_of_onFailed (honEq.trans hon), hparams]
    exact .inl ⟨rfl, State.endWith_of_bare_eq (State.tryCall_bare_eq hbare _ _) .fail⟩
  · rw [he, State.runSymbol_of_offFailed (honEq.trans hon) (hoffEq.trans hoff), hparams]
    exact .inl ⟨rfl, State.endWith_of_bare_eq
      (State.tryCall_bare_eq (State.held_bare_eq hbare x) _ _) .fail⟩
  · exact .inr ⟨he, State.runSymbol_of_good (honEq.trans hon) (hoffEq.trans hoff)⟩

/-- The steps from `v` do what the symbols of a character did to give `r`: where every write succeeded they
reach FETCH before `rest`, with a gap owed, and otherwise the end FAIL. -/
structure SimulatesChar (v : State) (rest : List Byte) (r : State × Bool) : Prop where
  done : r.2 = true → ∃ w, Reaches v w ∧ AtText w rest false true ∧ w.bare = r.1.bare
  failed : r.2 = false → ∃ w, Reaches v w ∧ w.forgetSequencer = (r.1.endWith .fail).forgetSequencer

theorem SimulatesChar.after {u : State} {r : State × Bool} (h : SimulatesChar u rest r)
    (hreach : Reaches v u) : SimulatesChar v rest r where
  done hok := by
    obtain ⟨w, hreach', hw⟩ := h.done hok
    exact ⟨w, hreach.trans hreach', hw⟩
  failed hbad := by
    obtain ⟨w, hreach', hw⟩ := h.failed hbad
    exact ⟨w, hreach.trans hreach', hw⟩

/-- The steps of a character's symbols. -/
theorem InChar.simulates (h : InChar v rest (x :: xs)) (hbare : v.bare = s.bare) :
    SimulatesChar v rest (morseSymbols (x :: xs) s) := by
  induction xs generalizing x v s with
  | nil =>
    rcases State.runSymbol_of_bare_eq hbare x [] with ⟨hbad, hend⟩ | ⟨he, hv⟩
    · exact ⟨fun hok => (by cases hbad.symm.trans hok), fun _ => ⟨_, h.reaches_runSymbol, hend⟩⟩
    · rw [he]
      refine ⟨fun _ => ⟨_, h.reaches_runSymbol, ?_⟩, nofun⟩
      rw [hv]
      exact ⟨(h.pulse x).nextSymbol_last, (State.nextSymbol_bare _).trans (State.pulse_bare_eq hbare x)⟩
  | cons y ys ih =>
    rcases State.runSymbol_of_bare_eq hbare x (y :: ys) with ⟨hbad, hend⟩ | ⟨he, hv⟩
    · exact ⟨fun hok => (by cases hbad.symm.trans hok), fun _ => ⟨_, h.reaches_runSymbol, hend⟩⟩
    · rw [he]
      have hnext : (v.pulse x).nextSymbol.bare = (s.pulse x).bare :=
        (State.nextSymbol_bare _).trans (State.pulse_bare_eq hbare x)
      exact (ih (h.pulse x).nextSymbol hnext).after (hv ▸ h.reaches_runSymbol)

/-- The steps of a whole character, with the gap that is owed before it. -/
theorem AtText.simulates {c : Byte} {lastWS pend : Bool} {code : List Symbol}
    (h : AtText v (c :: rest) lastWS pend) (hbare : v.bare = s.bare) (hc : classOf s.params c = .mapped)
    (hcode : tableCode s.params (fold c) = some code) :
    SimulatesChar v rest (morseSymbols code (s.charHead pend c)) := by
  obtain ⟨x, xs, rfl⟩ := List.exists_cons_of_ne_nil (tableCode_spec hcode).1
  rw [← State.params_of_bare_eq hbare] at hc hcode
  obtain ⟨u, hreach, hu, hbare'⟩ := h.charHead hc hcode
  exact (hu.simulates (hbare'.trans (State.charHead_bare_eq hbare pend c))).after hreach

end

/-! ## The whole command (45_morse.md R190, R196) -/

/-- From FETCH the steps do what the loop over the text does. -/
theorem MorseTextRuns.reached {text : List Byte} {lastWS pend : Bool} {s t : State}
    (h : MorseTextRuns text lastWS pend s t) {v : State} (hv : AtText v text lastWS pend)
    (hbare : v.bare = s.bare) : ∃ w, Reaches v w ∧ w.forgetSequencer = t.forgetSequencer := by
  induction h generalizing v with
  | done lastWS pend s =>
    obtain ⟨w, hreach, hw, hbare'⟩ := hv.payGap fun hpend =>
      sequencerStep_fetch_end_owed hv.phase hv.at_end (hv.pend.trans hpend)
    have hend := hw.step_eq (sequencerStep_fetch_end hw.phase hw.at_end hw.pend)
    exact ⟨_, hreach.trans (.head hend (.refl _)),
      State.endWith_of_bare_eq (hbare'.trans (State.payGap_bare_eq hbare pend)) .ok⟩
  | wsAgain hc _ ih =>
    rw [← State.params_of_bare_eq hbare] at hc
    have hskip := hv.step_eq (sequencerStep_fetch_skipWs hv.phase (hv.currentClass hc) hv.lastWS)
    obtain ⟨w, hreach, hw⟩ := ih hv.skipByte hbare
    exact ⟨w, .head hskip hreach, hw⟩
  | wsFirst hc _ ih =>
    rw [← State.params_of_bare_eq hbare] at hc
    obtain ⟨u, hreach, hu, hbare'⟩ := hv.wordGap hc
    obtain ⟨w, hreach', hw⟩ := ih hu (hbare'.trans (State.wordGap_bare_eq hbare))
    exact ⟨w, hreach.trans hreach', hw⟩
  | unmapped hc _ ih =>
    rw [← State.params_of_bare_eq hbare] at hc
    have hskip := hv.step_eq (sequencerStep_fetch_skipUnmapped hv.phase (hv.currentClass hc))
    obtain ⟨w, hreach, hw⟩ := ih hv.skipByte hbare
    exact ⟨w, .head hskip hreach, hw⟩
  | charDone hc hcode hok _ ih =>
    obtain ⟨u, hreach, hu, hbare'⟩ := (hv.simulates hbare hc hcode).done hok
    obtain ⟨w, hreach', hw⟩ := ih hu hbare'
    exact ⟨w, hreach.trans hreach', hw⟩
  | charFailed hc hcode hok => exact (hv.simulates hbare hc hcode).failed hok

/-- From acceptance the steps do what the big-step procedure does: the precheck, then the loop. -/
theorem acceptMorse_reaches (text : List Byte) {s : State} (hw : callerWaits s) :
    ∃ w, Reaches (s.acceptMorse text) w ∧ w.forgetSequencer = (morseRun text s).forgetSequencer := by
  have hbare : (s.acceptMorse text).bare = s.bare := rfl
  have hstep : step (s.acceptMorse text) = .next (s.acceptMorse text).runPrecheck :=
    step_active hw rfl (by simp) (sequencerStep_precheck rfl)
  have hverdict := State.verdict_of_bare_eq hbare
  have hcall := State.tryCall_bare_eq hbare .gpioGet gpioGetRequest
  cases hv : s.verdict with
  | some res =>
    rw [State.runPrecheck_of_verdict (hverdict.trans hv)] at hstep
    rw [morseRun_of_verdict hv]
    exact ⟨_, .head hstep (.refl _), State.endWith_of_bare_eq hcall res⟩
  | none =>
    rw [State.runPrecheck_of_pass (hverdict.trans hv)] at hstep
    rw [morseRun_of_pass hv]
    have hfetch : AtText (((s.acceptMorse text).tryCall .gpioGet gpioGetRequest).toPhase .fetch)
        text true false :=
      ⟨rfl, fun q rest hq => hw q rest (by simpa using hq), ⟨[], by simp, by simp⟩, by simp, by simp⟩
    obtain ⟨w, hreach, hend⟩ := (morseText_runs text true false _).reached hfetch hcall
    exact ⟨w, .head hstep hreach, hend⟩

/-- The big-step procedure ends in IDLE, not busy. -/
theorem morseRun_idle (text : List Byte) (s : State) :
    (morseRun text s).phase = .idle ∧ (morseRun text s).busy = false := by
  cases hv : s.verdict with
  | some res => rw [morseRun_of_verdict hv]; exact ⟨rfl, rfl⟩
  | none => rw [morseRun_of_pass hv]; exact (morseText_runs text ..).ends

/-- Settles O47: what the steps reach is the end of the big-step procedure, but for the sequencer's
registers. -/
theorem smallStepsComputeTheBigStep : Obligations.SmallStepsComputeTheBigStep := by
  intro s text _ _ hw
  obtain ⟨t, ⟨n, hrun⟩, hend⟩ := acceptMorse_reaches text hw
  obtain ⟨hidle, hbusy⟩ := morseRun_idle text s
  have hphase : t.phase = (morseRun text s).phase := congrArg (fun u => u.phase) hend
  have hbusyEq : t.busy = (morseRun text s).busy := congrArg (fun u => u.busy) hend
  exact ⟨n, t, hrun, hphase.trans hidle, hbusyEq.trans hbusy, hend⟩

end Sys2Proof.Machine
end

section
/-! What a step records in the accumulator (60_exceptions.md R201, R203, R206): no entry where every call of
the step succeeded, and one for the call that failed, which is its last event. -/

namespace Sys2Proof.Machine

/-- How a step records its calls: they all succeeded, or the last event is a call that failed, made with the
request of a command and recorded under its mnemonic, and the command ends FAIL. -/
inductive RecordsCalls (s t : State) : Prop where
  | good (es : List Event) (hran : RanGood s t es)
  | failed (i : Instr) (op : Op) (r : Request) (msg : Msg) (hr : i.request s.params = some r)
      (hop : instrOp i = some op) (hbad : s.good r = false)
      (htrace : t.trace = s.trace ++ [.xfer r (s.reply r)])
      (hacc : t.acc = { entries := s.acc.entries ++ [{ op := op, req := r.ident, msg := msg }],
                        count := s.acc.count + 1 })
      (hresult : t.result = .fail) (hbusy : t.busy = false)

section
variable {s t u : State} {es : List Event}

/-- `RanGood` speaks of four fields of its end state. -/
theorem RanGood.congr (h : RanGood s u es) (hparams : t.params = u.params) (hacc : t.acc = u.acc)
    (htrace : t.trace = u.trace) (hcalls : t.calls = u.calls) : RanGood s t es :=
  ⟨hparams.trans h.params, hacc.trans h.acc, htrace.trans h.trace, hcalls.trans h.calls, h.good⟩

/-- No event. -/
theorem RecordsCalls.of_silent (hparams : t.params = s.params) (hacc : t.acc = s.acc)
    (htrace : t.trace = s.trace) (hcalls : t.calls = s.calls) : RecordsCalls s t :=
  .good [] ((RanGood.refl s).congr hparams hacc htrace hcalls)

/-- `Try` of a call that succeeds is the call alone. -/
theorem RanGood.tryCall {op : Op} {r : Request} (hg : s.good r = true) :
    RanGood s (s.tryCall op r) [.xfer r (s.reply r)] :=
  State.tryCall_of_good (op := op) hg ▸ RanGood.issue hg

/-- A call of the sequencer that fails: `raise` makes the entry, `End(FAIL)` the result. -/
theorem RecordsCalls.endFail {i : Instr} {op : Op} {r : Request} (hr : i.request s.params = some r)
    (hop : instrOp i = some op) (hbad : s.good r = false) :
    RecordsCalls s ((s.tryCall op r).endWith .fail) := by
  rw [State.tryCall_of_failed hbad]
  exact .failed i op r _ hr hop hbad rfl rfl rfl rfl

end

/-! ## The cases of a step -/

/-- A command of one transfer, taken from the port. -/
theorem RecordsCalls.exec1 {s : State} {i : Instr} {op : Op} {r : Request} (rest : List Presentation)
    (hr : i.request s.params = some r) (hop : instrOp i = some op) :
    RecordsCalls s (State.exec1 { s with port := rest } op r) := by
  obtain ⟨ht, hgoodAcc, hbadAcc⟩ := State.exec1_ran { s with port := rest } op r
  have hparams := congrArg State.params ht
  have htrace := congrArg State.trace ht
  have hcalls := congrArg State.calls ht
  cases hg : s.good r with
  | true => exact .good _ ((RanGood.issue hg).congr hparams (hgoodAcc hg) htrace hcalls)
  | false =>
    obtain ⟨msg, hacc⟩ := hbadAcc hg
    have hresult := (congrArg State.result ht).trans (if_neg (ne_true_of_eq_false hg))
    exact .failed i op r msg hr hop hg htrace hacc hresult (congrArg State.busy ht)

/-- The precheck's read is recorded as GPIO_GET (60_exceptions.md R201). -/
theorem RecordsCalls.runPrecheck (s : State) : RecordsCalls s s.runPrecheck := by
  rcases s.runPrecheck_cases with ⟨hbad, he⟩ | ⟨hg, -, he⟩ | ⟨hg, -, -, he⟩ | ⟨hg, -, -, he⟩ <;> rw [he]
  · exact .endFail (i := .gpioGet) rfl rfl hbad
  · exact .good _ ((RanGood.tryCall hg).congr rfl rfl rfl rfl)
  · exact .good _ ((RanGood.tryCall hg).congr rfl rfl rfl rfl)
  · exact .good _ ((RanGood.tryCall hg).congr rfl rfl rfl rfl)

/-- A DAC-enable write is recorded as GPIO_SET (60_exceptions.md R201). -/
theorem RecordsCalls.dacWrite (s : State) (level : Nat) (next : Phase) :
    RecordsCalls s (s.dacWrite (gpioSetRequest s.params.dacEnPin level) next) := by
  rcases s.dacWrite_cases (gpioSetRequest s.params.dacEnPin level) next with ⟨hg, he⟩ | ⟨hbad, he⟩ <;> rw [he]
  · exact .good _ ((RanGood.tryCall hg).congr rfl rfl rfl rfl)
  · exact .endFail (gpioSetInstr_request _ _ _) (gpioSetInstr_instrOp _ _) hbad

/-- A symbol's last gap makes no call. -/
theorem RecordsCalls.runSymGap (s : State) : RecordsCalls s s.runSymGap := by
  rcases s.runSymGap_cases with ⟨-, he⟩ | ⟨-, he⟩ <;> rw [he] <;>
    exact .good _ ((RanGood.delay s _).congr rfl rfl rfl rfl)

/-- The sequencer's calls are the precheck's read and the DAC-enable writes. -/
theorem RecordsCalls.of_sequencerStep {s t : State} (h : sequencerStep s = .next t) : RecordsCalls s t := by
  rcases sequencerStep_next_cases h with ⟨-, rfl⟩ | ⟨-, rfl⟩ | ⟨-, -, -, -, rfl⟩ | ⟨-, -, -, -, rfl⟩ |
    ⟨-, -, -, rfl⟩ | ⟨-, -, -, rfl⟩ | ⟨-, -, -, rfl⟩ | ⟨-, -, -, rfl⟩ | ⟨-, -, rfl⟩ | ⟨-, rfl⟩ |
    ⟨-, rfl⟩ | ⟨-, c, code, -, -, rfl⟩ | ⟨-, rfl⟩ | ⟨-, x, -, rfl⟩ | ⟨-, rfl⟩ | ⟨-, rfl⟩
  · exact .of_silent rfl rfl rfl rfl
  · exact .runPrecheck s
  · exact .of_silent rfl rfl rfl rfl
  · exact .of_silent rfl rfl rfl rfl
  · exact .of_silent rfl rfl rfl rfl
  · exact .of_silent rfl rfl rfl rfl
  · exact .of_silent rfl rfl rfl rfl
  · exact .of_silent rfl rfl rfl rfl
  · exact .of_silent rfl rfl rfl rfl
  · exact .good _ ((RanGood.delay s _).congr rfl rfl rfl rfl)
  · exact .good _ ((RanGood.wordGap s).congr rfl rfl rfl rfl)
  · exact .good _ ((RanGood.echo s c).congr rfl rfl rfl rfl)
  · exact .dacWrite s _ _
  · exact .good _ ((RanGood.delay s _).congr rfl rfl rfl rfl)
  · exact .dacWrite s _ _
  · exact .runSymGap s

/-- A step is a command of one transfer, a MORSE command accepted, or the sequencer's. -/
theorem RecordsCalls.of_step {s t : State} (h : step s = .next t) : RecordsCalls s t := by
  rcases step_cases h with ⟨rest, op, r, i, -, -, hop, hr, rfl⟩ | ⟨rest, text, -, rfl⟩ | hs
  · exact .exec1 rest hr hop
  · exact .of_silent rfl rfl rfl rfl
  · exact .of_sequencerStep hs

/-- Settles O16: the two ways a step records its calls; the events of a step are what its trace grows by. -/
theorem accumulatorRecordsEachTransportError : Obligations.AccumulatorRecordsEachTransportError := by
  intro s t h
  cases RecordsCalls.of_step h with
  | good es hran =>
    refine .inl ⟨hran.acc, fun es' r rep htrace hmem => hran.good r rep ?_⟩
    have hes : es = es' := List.append_cancel_left (hran.trace.symm.trans htrace)
    exact hes ▸ hmem
  | failed i op r msg hr hop hbad htrace hacc hresult hbusy =>
    exact .inr ⟨i, r, s.reply r, op, msg, hr, hop, htrace, hbad, hacc, hresult, hbusy⟩

end Sys2Proof.Machine
end

section
/-! Block reset, waiting, and what no later step undoes (70_reset_and_hazards.md R225 to R228, R236): the
reset values, the step in IDLE with nothing presented, and the OTP lock through every step. -/

namespace Sys2Proof.Machine

/-- Settles O8: the record `State.reset` writes each of these fields. -/
theorem blockResetValues : Obligations.BlockResetValues :=
  ⟨rfl, rfl, rfl, rfl, rfl, rfl, rfl, rfl, rfl, rfl, rfl⟩

/-- With nothing presented the step is the sequencer's. -/
theorem step_of_port_nil {s : State} (h : s.port = []) : step s = sequencerStep s := by
  simp [step, h]

/-- In IDLE the sequencer waits (70_reset_and_hazards.md R227; log 30). -/
theorem sequencerStep_idle {s : State} (h : s.phase = .idle) : sequencerStep s = .next s := by
  simp [sequencerStep, h]

/-- Settles O9: the reset state is one of the IDLE states with an empty port. -/
theorem blockWaitsForACommand : Obligations.BlockWaitsForACommand := by
  have hwaits : ∀ s : State, s.phase = .idle → s.port = [] → step s = .next s := fun _ hidle hport =>
    (step_of_port_nil hport).trans (sequencerStep_idle hidle)
  exact ⟨hwaits State.reset rfl rfl, rfl, hwaits⟩

/-- Settles O27: a step leaves the device alone or makes one call, and no call unlocks the OTP. -/
theorem otpLockIsIrreversible : Obligations.OtpLockIsIrreversible := by
  intro s t hlocked h
  rcases step_cases h with ⟨rest, op, r, i, -, -, -, -, rfl⟩ | ⟨rest, text, -, rfl⟩ | hs
  · rw [State.exec1_dev]
    exact deviceAfter_otp_locked hlocked
  · exact hlocked
  · cases SequencerCall.of_sequencerStep hs with
    | noCall _ _ hdev _ => rw [hdev, hlocked]
    | read hdev _ => exact hdev ▸ deviceAfter_otp_locked hlocked
    | write _ _ hdev _ => exact hdev ▸ deviceAfter_otp_locked hlocked

end Sys2Proof.Machine
end

section
/-! The boot orders (70_reset_and_hazards.md R230): what a command that ended OK has done, the channel both
orders configure first, and the register writes that follow. -/

namespace Sys2Proof.Machine

/-! ## Commands that ended OK (41_spi_config.md R100) -/

/-- What a command of one transfer that ended OK has done: its operands fit, nothing was recorded, and the
device is as a call that succeeded leaves it. -/
structure RanOk (i : Instr) (r : Request) (s t : State) : Prop where
  wf : i.wf = true
  params : t.params = s.params
  acc : t.acc = s.acc
  dev : t.dev = deviceAfter s.params s.calls r true s.dev

section
variable {c : Command} {s t : State}

theorem runCommand_eq_some (h : runCommand c s = some t) :
    ∃ i, commandInstr s.params c = .ok i ∧ exec i s = .next t ∧ t.result = .ok := by
  unfold runCommand at h
  split at h
  · next i hi =>
    split at h
    · next u hexec =>
      obtain ⟨hok, hut⟩ := Option.ite_none_right_eq_some.1 h
      cases hut
      exact ⟨i, hi, hexec, hok⟩
    · cases h
    · cases h
  · cases h

/-- A record that names a command of one transfer: OK is the result of a call that succeeded. -/
theorem RanOk.of_runCommand {i : Instr} {r : Request} (h : runCommand c s = some t)
    (hi : commandInstr s.params c = .ok i) (hr : i.request s.params = some r) : RanOk i r s t := by
  obtain ⟨j, hj, hexec, hok⟩ := runCommand_eq_some h
  cases hi.symm.trans hj
  obtain ⟨op, hop, -⟩ := exec_of_request hr
  obtain ⟨-, hwf, ⟨r', hr', rfl⟩ | ⟨text, rfl, -⟩⟩ := exec_command_cases hop hexec
  · cases hr.symm.trans hr'
    have hran := s.exec1_ran op r
    have hgood : s.good r = true := by
      cases hg : s.good r with
      | true => rfl
      | false => simp [hran.result_eq, hg] at hok
    obtain ⟨ht, hacc, -⟩ := hran
    have hparams := congrArg State.params ht
    exact ⟨hwf, hparams, hacc hgood, hgood ▸ s.exec1_dev op r⟩
  · cases hr

theorem runCommands_cons_eq_some {cs : List Command} :
    runCommands (c :: cs) s = some t ↔ ∃ u, runCommand c s = some u ∧ runCommands cs u = some t :=
  Option.bind_eq_some_iff

theorem runCommands_singleton : runCommands [c] s = runCommand c s :=
  Option.bind_fun_some _

theorem runCommands_append (cs ds : List Command) (s : State) :
    runCommands (cs ++ ds) s = (runCommands cs s).bind (runCommands ds) := by
  induction cs generalizing s with
  | nil => rfl
  | cons c cs ih => simp [runCommands, ih, Option.bind_assoc]

theorem runCommands_append_eq_some {cs ds : List Command} :
    runCommands (cs ++ ds) s = some t ↔ ∃ u, runCommands cs s = some u ∧ runCommands ds u = some t := by
  rw [runCommands_append, Option.bind_eq_some_iff]

end

/-! ## The channel (20_memory.md R64, R65) -/

/-- The number a command names a channel by (00_scope.md R6). -/
def channelNumber (c : Channel) : Nat := if c = .ch0 then 0 else 1

/-- What both boot orders begin with: mode, delays and chip-select of one channel. -/
def channelBoot (c : Channel) (cpol cpha : Nat) : List Command :=
  [.spiMode (channelNumber c) cpol cpha, .delayDisable (channelNumber c), .csSelect (channelNumber c)]

theorem ddsBoot_eq (p : Params) (shape : Shape) :
    ddsBoot p shape =
      channelBoot p.ddsChannel (levelOf p.ddsSpiCpol) (levelOf p.ddsSpiCpha) ++ [.ddsShape shape] := rfl

theorem ampBoot_eq (p : Params) (cpol cpha value : Nat) :
    ampBoot p cpol cpha value = channelBoot p.ampChannel cpol cpha ++ [.ddsAmp value] := rfl

theorem channelOf_channelNumber (c : Channel) : channelOf (BitVec.ofNat 8 (channelNumber c)) = some c := by
  cases c <;> rfl

theorem channelGet_channelSet {α : Type} (m : PerChannel α) (c : Channel) (v : α) :
    channelGet (channelSet m c v) c = v := by
  cases c <;> rfl

theorem soleChannel_onlyChannel (c : Channel) : soleChannel (onlyChannel c) = some c := by
  cases c <;> rfl

/-- A channel as a boot order leaves it: the only one selected, its delays ZERO, its SPI word set. -/
structure Configured (c : Channel) (w : Byte) (d : Device) : Prop where
  selected : soleChannel d.cs = some c
  delays : channelGet d.delays c = .zero
  spiword : channelGet d.spiword c = w

/-- It is a statement about the bridge, which a bulk write leaves alone. -/
theorem Configured.of_bulk {c : Channel} {w : Byte} {p : Params} {d d' : Device} (h : Configured c w d)
    (hframe : BulkFrame p d d') : Configured c w d' := by
  rw [hframe.bridge]
  exact ⟨h.selected, h.delays, h.spiword⟩

/-- A place in a boot order that began in `s`: the parameters and the accumulator of `s`, the channel
configured, and the DDS register file as given. -/
structure Booted (s : State) (c : Channel) (w : Byte) (d : Dds) (t : State) : Prop where
  params : t.params = s.params
  acc : t.acc = s.acc
  dds : t.dev.dds = d
  configured : Configured c w t.dev

/-- The three commands write their fields of the channel one after the other. -/
theorem Booted.of_channelBoot {c : Channel} {cpol cpha : Nat} {s t : State}
    (h : runCommands (channelBoot c cpol cpha) s = some t) :
    Booted s c (spiModeWord cpol cpha) s.dev.dds t := by
  obtain ⟨u, hu, h⟩ := runCommands_cons_eq_some.1 h
  obtain ⟨v, hv, ht⟩ := runCommands_cons_eq_some.1 h
  have hmode := RanOk.of_runCommand hu rfl rfl
  have hdelay := RanOk.of_runCommand hv rfl rfl
  have hselect := RanOk.of_runCommand (runCommands_singleton.symm.trans ht) rfl rfl
  have hch := channelOf_channelNumber c
  obtain ⟨⟨-, hcpol⟩, hcpha⟩ : (channelNumber c < 256 ∧ cpol < 2) ∧ cpha < 2 := by
    simpa [Instr.wf] using hmode.wf
  have hudev := hmode.dev
  rw [deviceAfter_spiMode _ hcpol hcpha, spiModeWrite_of_channel hch, if_pos rfl] at hudev
  have hvdev := hdelay.dev
  rw [deviceAfter_delayDisable, delayDisableWrite_of_channel hch, if_pos rfl, hudev] at hvdev
  have htdev := hselect.dev
  rw [deviceAfter_csSelect, csSelectWrite_of_good rfl hch, hvdev] at htdev
  refine ⟨hselect.params.trans (hdelay.params.trans hmode.params),
    hselect.acc.trans (hdelay.acc.trans hmode.acc), ?dds, ?selected, ?delays, ?spiword⟩ <;> rw [htdev]
  case selected => exact soleChannel_onlyChannel c
  case delays | spiword => exact channelGet_channelSet _ c _

/-! ## The registers (20_memory.md R66, R67, 44_dds.md R140 to R143) -/

section
variable {s u t : State} {i : Instr} {r : Request} {draw : Nat → Device} {ws : List Half} {w : Byte} {d : Dds}

/-- A bulk write that ended OK keeps the channel as it is configured. -/
theorem Booted.delivered {c : Channel} (h : Booted s c w d u) (hran : RanOk i r u t)
    (hdev : t.dev = bulkDelivered u.params draw u.dev ws) : Booted s c w t.dev.dds t :=
  ⟨hran.params.trans h.params, hran.acc.trans h.acc, rfl,
    h.configured.of_bulk (hdev ▸ bulkFrame_delivered _ _ _ _)⟩

/-- On DDS_CHANNEL its words go to the DDS. -/
theorem Booted.ddsDelivered (h : Booted s s.params.ddsChannel w d u) (hran : RanOk i r u t)
    (hdev : t.dev = bulkDelivered u.params draw u.dev ws) :
    Booted s s.params.ddsChannel w (ddsWords (fun k => (draw k).dds) 0 ws d) t := by
  have hsole : soleChannel u.dev.cs = some u.params.ddsChannel := h.params ▸ h.configured.selected
  have hdds := congrArg Device.dds hdev
  rw [bulkDelivered_dds hsole, h.dds] at hdds
  exact hdds ▸ h.delivered hran hdev

/-- One word that has the same effect whatever is drawn. -/
theorem Booted.deliveredWord {x : Half} {d' : Dds} (h : Booted s s.params.ddsChannel w d u)
    (hran : RanOk i r u t) (hdev : deviceAfter u.params u.calls r true u.dev =
      bulkDelivered u.params (Config.freeDevice u.calls) u.dev [x])
    (hword : ∀ f, ddsWord f d x = d') : Booted s s.params.ddsChannel w d' t :=
  hword (Config.freeDevice u.calls 0).dds ▸ h.ddsDelivered hran (hran.dev.trans hdev)

/-- DDS_SHAPE writes the control register. -/
theorem Booted.ddsShape {shape : Shape} (h : Booted s s.params.ddsChannel w d u)
    (hrun : runCommand (.ddsShape shape) u = some t) :
    Booted s s.params.ddsChannel w { d with ctrl := (shapeWord shape).extractLsb' 0 14 } t :=
  h.deliveredWord (.of_runCommand hrun rfl rfl) ((deviceAfter_ddsShape shape).trans (if_pos rfl)) fun _ =>
    ddsWord_ctrl (by cases shape <;> rfl)

/-- DDS_FREQ with B28 = 1 and the latch empty writes the register whole. -/
theorem Booted.ddsFreq {reg : FreqReg} {v : Nat} (h : Booted s s.params.ddsChannel w d u)
    (hran : RanOk i (ddsFreqRequest reg v) u t) (hb : b28 d = true) (hl : d.lsw = none) :
    Booted s s.params.ddsChannel w (setFreq d reg (BitVec.ofNat 28 v)) t := by
  have hdelivered := h.ddsDelivered hran (hran.dev.trans ((deviceAfter_ddsFreq reg v).trans (if_pos rfl)))
  rwa [ddsWords_freq _ hb hl] at hdelivered

/-- Each command after the DDS order leaves its value in its register; one with a tag of the wrong kind does
not end OK (30_encoding.md R88). -/
theorem Booted.registerWrite {c : Command} (h : Booted s s.params.ddsChannel w d u)
    (hc : (∃ tag v, c = .ddsFreq tag v) ∨ (∃ tag v, c = .ddsPhase tag v))
    (hrun : runCommand c u = some t) (hb : b28 d = true) (hl : d.lsw = none) :
    Booted s s.params.ddsChannel w (ddsWrite c d) t := by
  obtain ⟨j, hj, -, -⟩ := runCommand_eq_some hrun
  obtain ⟨tag, v, rfl⟩ | ⟨tag, v, rfl⟩ := hc
  · cases tag with
    | freq0 => exact h.ddsFreq (reg := .freq0) (.of_runCommand hrun rfl rfl) hb hl
    | freq1 => exact h.ddsFreq (reg := .freq1) (.of_runCommand hrun rfl rfl) hb hl
    | phase0 | phase1 => cases hj
  · cases tag with
    | phase0 =>
      exact h.deliveredWord (.of_runCommand hrun rfl rfl) ((deviceAfter_ddsPhase .phase0 v).trans (if_pos rfl))
        fun _ => ddsWord_phase0 _
    | phase1 =>
      exact h.deliveredWord (.of_runCommand hrun rfl rfl) ((deviceAfter_ddsPhase .phase1 v).trans (if_pos rfl))
        fun _ => ddsWord_phase1 _
    | freq0 | freq1 => cases hj

/-- A register write keeps B28 = 1 and the latch empty, which the next one needs. -/
theorem ddsWrite_keeps (c : Command) (d : Dds) :
    (ddsWrite c d).ctrl = d.ctrl ∧ (ddsWrite c d).lsw = d.lsw := by
  unfold ddsWrite
  split <;> exact ⟨rfl, rfl⟩

theorem Booted.registerWrites {cmds : List Command} (h : Booted s s.params.ddsChannel w d u)
    (hcmds : ∀ c ∈ cmds, (∃ tag v, c = .ddsFreq tag v) ∨ (∃ tag v, c = .ddsPhase tag v))
    (hrun : runCommands cmds u = some t) (hb : b28 d = true) (hl : d.lsw = none) :
    Booted s s.params.ddsChannel w (cmds.foldl (fun d c => ddsWrite c d) d) t := by
  induction cmds generalizing u d with
  | nil =>
    cases hrun
    exact h
  | cons c cs ih =>
    obtain ⟨hc, hcs⟩ := List.forall_mem_cons.1 hcmds
    obtain ⟨v, hv, hrest⟩ := runCommands_cons_eq_some.1 hrun
    obtain ⟨hctrl, hlsw⟩ := ddsWrite_keeps c d
    exact ih (h.registerWrite hc hv hb hl) hcs hrest (by rw [b28, hctrl]; exact hb) (hlsw.trans hl)

/-- On AMP_CHANNEL the one word of DDS_AMP goes to the amplitude register. -/
theorem Booted.ddsAmp {v : Nat} (h : Booted s s.params.ampChannel w d u)
    (hrun : runCommand (.ddsAmp v) u = some t) :
    t.dev.amp = BitVec.ofNat 10 v ∧ Booted s s.params.ampChannel w t.dev.dds t := by
  have hran := RanOk.of_runCommand hrun rfl rfl
  have hv : v < 2 ^ 10 := of_decide_eq_true hran.wf
  have hdev := hran.dev.trans ((deviceAfter_ddsAmp _ hv).trans (if_pos rfl))
  have hsole : soleChannel u.dev.cs = some u.params.ampChannel := h.params ▸ h.configured.selected
  refine ⟨?amp, h.delivered hran hdev⟩
  rw [hdev, bulkDelivered_amp hsole, ampWrite_ampWord _ _ hv]

end

/-- Settles O32: each order configures its channel and then writes its registers, the DDS order with the
control register first, which sets B28. -/
theorem bootOrderTakesEffect : Obligations.BootOrderTakesEffect := by
  refine ⟨fun s t shape cmds hlsw hcmds hrun => ?dds, fun s t cpol cpha v hrun => ?amp⟩
  case dds =>
    obtain ⟨u, hboot, hwrites⟩ := runCommands_append_eq_some.1 hrun
    rw [ddsBoot_eq] at hboot
    obtain ⟨u₀, hchannel, hshape⟩ := runCommands_append_eq_some.1 hboot
    rw [runCommands_singleton] at hshape
    have hb : ((shapeWord shape).extractLsb' 0 14).getLsbD 13 = true := by cases shape <;> decide
    have ht := ((Booted.of_channelBoot hchannel).ddsShape hshape).registerWrites hcmds hwrites hb hlsw
    refine ⟨ht.dds.trans ?ctrl, ht.configured.selected, ht.configured.delays, ht.configured.spiword, ht.acc⟩
    case ctrl => cases shape <;> rfl
  case amp =>
    rw [ampBoot_eq] at hrun
    obtain ⟨u, hchannel, hamp⟩ := runCommands_append_eq_some.1 hrun
    rw [runCommands_singleton] at hamp
    obtain ⟨hvalue, ht⟩ := (Booted.of_channelBoot hchannel).ddsAmp hamp
    exact ⟨hvalue, ht.configured.selected, ht.configured.delays, ht.configured.spiword, ht.acc⟩

end Sys2Proof.Machine
end
